-- ==== Sys2Proof/Word.lean ====
section
/-! DEFINITION. The bit-vector widths of spec/00_scope.md R7 and R8. -/

namespace Sys2Proof

/-- A byte: the width of BUS, MBR, IOBR and of the ALU operands (R7). -/
abbrev Byte := BitVec 8

/-- The 16-bit instruction word, and the width of ACC (R7, R8). -/
abbrev Word := BitVec 16

/-- An 11-bit address: ADDR, and the operand field (R7). -/
abbrev Addr := BitVec 11

/-- The program counter: 11 bits, and a 12th for the one-past-the-end value 0x800 (10_state.md R28). -/
abbrev Pc := BitVec 12

/-- A 5-bit opcode (R7). -/
abbrev Opcode := BitVec 5

end Sys2Proof
end

