-- ==== Sys2Proof/Config.lean ====
section
/-! DEFINITION. What an implementation fixes (spec/00_scope.md R9): the parameters OPCODE_MAP, DECODE_MODE and MAX_INSTR.
They are a parameter of the step relation, not state (spec/10_state.md R39). -/

namespace Sys2Proof

/-- The 24 operations of the fixed opcode table (30_encoding.md R83), named by their mnemonics in the order of R84. -/
inductive Op where
  | wm | rm | br | rio | wio | wb | wib | wacc | racc | swap
  | brlt | brgt | brne | bre | shr | shl | xor | not | or | and
  | mul | sub | add | eop
deriving DecidableEq, Repr

/-- The operations in the order in which R84 lists them. -/
def Op.all : List Op :=
  [.wm, .rm, .br, .rio, .wio, .wb, .wib, .wacc, .racc, .swap,
   .brlt, .brgt, .brne, .bre, .shr, .shl, .xor, .not, .or, .and,
   .mul, .sub, .add, .eop]

/-- How an instruction reads its operand field (30_encoding.md R82). -/
inductive OperandKind where
  | address    -- the 11-bit unsigned absolute value operand[10:0]
  | immediate  -- the byte operand[7:0]; operand[10:8] are ignored
  | absent     -- all 11 operand bits are ignored
deriving DecidableEq, Repr

/-- The operand kind of each operation (30_encoding.md R82). -/
def Op.kind : Op → OperandKind
  | .wm | .rm | .rio | .wio | .br | .brlt | .brgt | .brne | .bre => .address
  | .wb | .wib => .immediate
  | .wacc | .racc | .swap | .shr | .shl | .xor | .not | .or | .and | .mul | .sub | .add | .eop => .absent

/-- OPCODE_MAP: the 5-bit code of each operation (00_scope.md R9, 30_encoding.md R83, R85). -/
abbrev OpcodeMap := Op → Opcode

/-- DECODE_MODE (00_scope.md R9): what an unrecognized opcode does (40_fetch_decode.md R106). -/
inductive DecodeMode where
  | permissive
  | strict
deriving DecidableEq, Repr

/-- The run's configuration (10_state.md R39): OPCODE_MAP, DECODE_MODE and MAX_INSTR (`none`, or the host's bound). -/
structure Config where
  opcodeMap  : OpcodeMap
  decodeMode : DecodeMode
  maxInstr   : Option Nat

end Sys2Proof
end

