-- ==== Sys2Proof/Syntax.lean ====
section
/-! DEFINITION. The instructions: one constructor per row of spec/opcode_table.json, with the operand that R82 of
spec/30_encoding.md gives it. Operand bits an instruction ignores are no part of it (R87). -/

namespace Sys2Proof

/-- The 24 instructions (30_encoding.md R84). `addr` is the whole operand field, `imm` its low byte. -/
inductive Instr where
  | wm (addr : Addr)
  | rm (addr : Addr)
  | br (addr : Addr)
  | rio (addr : Addr)
  | wio (addr : Addr)
  | wb (imm : Byte)
  | wib (imm : Byte)
  | wacc
  | racc
  | swap
  | brlt (addr : Addr)
  | brgt (addr : Addr)
  | brne (addr : Addr)
  | bre (addr : Addr)
  | shr
  | shl
  | xor
  | not
  | or
  | and
  | mul
  | sub
  | add
  | eop
deriving DecidableEq, Repr

end Sys2Proof
end

