-- ==== Sys2Proof/Decode.lean ====
section
/-! DEFINITION. The default opcode map (spec/30_encoding.md R84), the decoder (R80-R82, R86, R87; 40_fetch_decode.md R104,
R105) and the encoder (R88, R90). -/

namespace Sys2Proof

/-- The default OPCODE_MAP (30_encoding.md R84). -/
def defaultOpcodeMap : OpcodeMap
  | .wm   => 0x01#5
  | .rm   => 0x02#5
  | .br   => 0x03#5
  | .rio  => 0x04#5
  | .wio  => 0x05#5
  | .wb   => 0x06#5
  | .wib  => 0x07#5
  | .wacc => 0x09#5
  | .racc => 0x0B#5
  | .swap => 0x0E#5
  | .brlt => 0x11#5
  | .brgt => 0x12#5
  | .brne => 0x13#5
  | .bre  => 0x14#5
  | .shr  => 0x15#5
  | .shl  => 0x16#5
  | .xor  => 0x17#5
  | .not  => 0x18#5
  | .or   => 0x19#5
  | .and  => 0x1A#5
  | .mul  => 0x1B#5
  | .sub  => 0x1D#5
  | .add  => 0x1E#5
  | .eop  => 0x1F#5

/-- The defaults of 00_scope.md R9: the map of R84, `permissive`, no bound. -/
def defaultConfig : Config where
  opcodeMap := defaultOpcodeMap
  decodeMode := .permissive
  maxInstr := none

/-- `opcode = IR >> 11`, bits 15:11 of the word (R80, R104). -/
def opcodeField (w : Word) : Opcode := w.extractLsb' 11 5

/-- `operand = IR & 0x7FF`, bits 10:0 of the word (R80, R104). -/
def operandField (w : Word) : Addr := w.extractLsb' 0 11

/-- The 8-bit immediate operand[7:0] (R82). -/
def immediateOf (operand : Addr) : Byte := operand.extractLsb' 0 8

/-- The operation that OPCODE_MAP maps to a code, if any (R105); `none` is an unassigned code (R86). -/
def decodeOp (m : OpcodeMap) (code : Opcode) : Option Op := Op.all.find? (fun o => m o == code)

/-- The instruction of an operation with an operand field (R82, R87). -/
def Op.withOperand (operand : Addr) : Op → Instr
  | .wm   => .wm operand
  | .rm   => .rm operand
  | .br   => .br operand
  | .rio  => .rio operand
  | .wio  => .wio operand
  | .wb   => .wb (immediateOf operand)
  | .wib  => .wib (immediateOf operand)
  | .wacc => .wacc
  | .racc => .racc
  | .swap => .swap
  | .brlt => .brlt operand
  | .brgt => .brgt operand
  | .brne => .brne operand
  | .bre  => .bre operand
  | .shr  => .shr
  | .shl  => .shl
  | .xor  => .xor
  | .not  => .not
  | .or   => .or
  | .and  => .and
  | .mul  => .mul
  | .sub  => .sub
  | .add  => .add
  | .eop  => .eop

/-- Decoding from the latches OPC and OPR (R104, R105). -/
def decodeFields (m : OpcodeMap) (opc : Opcode) (opr : Addr) : Option Instr :=
  match decodeOp m opc with
  | some o => some (o.withOperand opr)
  | none => none

/-- Why bytes are no instruction. -/
inductive DecodeError where
  | unrecognizedOpcode (code : Opcode)  -- an unassigned code (30_encoding.md R86)
  | truncated                           -- fewer than the two bytes of an instruction (R81)
deriving DecidableEq, Repr

/-- Decoding a 16-bit word (R80). -/
def decodeWord (m : OpcodeMap) (w : Word) : Except DecodeError Instr :=
  match decodeFields m (opcodeField w) (operandField w) with
  | some i => .ok i
  | none => .error (.unrecognizedOpcode (opcodeField w))

/-- Decoding bytes as memory holds them, high byte first (R80; 20_memory.md R60); answers the bytes after the instruction. -/
def decodeBytes (m : OpcodeMap) : List Byte → Except DecodeError (Instr × List Byte)
  | hi :: lo :: rest =>
    match decodeWord m (hi ++ lo) with
    | .ok i => .ok (i, rest)
    | .error e => .error e
  | [_] => .error .truncated
  | [] => .error .truncated

/-- The operation of an instruction. -/
def Instr.op : Instr → Op
  | .wm _ => .wm
  | .rm _ => .rm
  | .br _ => .br
  | .rio _ => .rio
  | .wio _ => .wio
  | .wb _ => .wb
  | .wib _ => .wib
  | .wacc => .wacc
  | .racc => .racc
  | .swap => .swap
  | .brlt _ => .brlt
  | .brgt _ => .brgt
  | .brne _ => .brne
  | .bre _ => .bre
  | .shr => .shr
  | .shl => .shl
  | .xor => .xor
  | .not => .not
  | .or => .or
  | .and => .and
  | .mul => .mul
  | .sub => .sub
  | .add => .add
  | .eop => .eop

/-- The operand field the assembler writes: 0 in every bit the instruction ignores (R88). -/
def Instr.operand : Instr → Addr
  | .wm a | .rm a | .br a | .rio a | .wio a | .brlt a | .brgt a | .brne a | .bre a => a
  | .wb b | .wib b => b.setWidth 11
  | .wacc | .racc | .swap | .shr | .shl | .xor | .not | .or | .and | .mul | .sub | .add | .eop => 0#11

/-- `word = (OPCODE_MAP(mnemonic) << 11) | operand` (R88). -/
def encode (m : OpcodeMap) (i : Instr) : Word := m i.op ++ i.operand

/-- The bytes of a word as memory holds them, high byte first (20_memory.md R60). -/
def wordBytes (w : Word) : List Byte := [w.extractLsb' 8 8, w.extractLsb' 0 8]

/-- The bytes of an instruction (R90). -/
def encodeBytes (m : OpcodeMap) (i : Instr) : List Byte := wordBytes (encode m i)

/-- The instruction whose bits are `w`, numbered as spec/opcode_table.json numbers them: one 16-bit word, bits above
`nbits` zero, laid out high byte first and given to the decoder under the default map. -/
def decodeTableWord (nbits w : Nat) : Option Instr :=
  match decodeBytes defaultOpcodeMap (wordBytes (BitVec.ofNat 16 (w % 2 ^ nbits))) with
  | .ok (i, _) => some i
  | .error _ => none

end Sys2Proof
end

