-- ==== Sys2Proof/Machine/State.lean ====
section
/-! DEFINITION. The state of the core (spec/10_state.md), its reset values (R41), and its plain updates, one per register
or group of registers that the spec writes together. -/

namespace Sys2Proof.Machine

/-- The FlagsRegister: four single-bit flags (10_state.md R22). -/
structure Flags where
  zf : Bool  -- Zero
  cf : Bool  -- Carry
  sf : Bool  -- Sign
  of : Bool  -- Overflow
deriving DecidableEq, Repr

/-- The states of the control unit (R29). -/
inductive CuState where
  | fetchHigh
  | fetchLow
  | decode
  | execute
  | terminate
deriving DecidableEq, Repr

/-- The two directions of the RW control line (R30). -/
inductive Direction where
  | read
  | write
deriving DecidableEq, Repr

/-- The run outcome register RESULT (R33). -/
inductive RunResult where
  | running
  | success
  | addressFault
  | runaway
  | invalidOpcode
deriving DecidableEq, Repr

/-- A diagnostic record: the PC of the instruction's high byte and its OPC (60_exceptions.md R214). -/
structure DiagRecord where
  pc  : Pc
  opc : Opcode
deriving DecidableEq, Repr

/-- The bytes of the bit-chip memory by address, in canonical form: addresses strictly rising, no entry equal to what an
unlisted address reads as (Machine/Memory.lean). The bit planes of R36 are the view `planeWord` (Machine/BitChip.lean). -/
abbrev Memory := List Host.Cell

/-- Everything the spec gives the machine (10_state.md R20-R37), and the model's own count `transfers`. -/
structure State where
  cu        : CuState              -- R29
  pc        : Pc                   -- R28
  ir        : Word                 -- R26
  opc       : Opcode               -- R27
  opr       : Addr                 -- R27
  mbr       : Byte                 -- R25
  iobr      : Byte                 -- R25
  acc       : Word                 -- R20
  flags     : Flags                -- R22
  bus       : Byte                 -- R31
  addr      : Addr                 -- R32
  iom       : Bool                 -- R30
  rw        : Direction            -- R30
  oe        : Bool                 -- R30
  mem       : Memory               -- R36
  iobuf     : Vector Byte 32       -- R37
  result    : RunResult            -- R33
  faultAddr : BitVec 12            -- R33
  diag      : Nat                  -- R34
  diagLog   : List DiagRecord      -- R214, oldest first
  icount    : Nat                  -- R35
  transfers : Nat                  -- the model's own: bus transfers made (40_fetch_decode.md R110)
deriving DecidableEq, Repr

/-- Why no step is taken. -/
inductive Fault where
  /-- Raised by `cuStep` when RESULT has left `running`: no step is enabled and the state is frozen (60_exceptions.md R220,
  I19). Safe: the model stops where the machine stops. -/
  | runEnded (r : RunResult)
  /-- Raised by `cuStep` in TERMINATE while RESULT is still `running`, which no run reaches: TERMINATE has no step
  (40_fetch_decode.md R100). Safe. -/
  | terminated
deriving DecidableEq, Repr

/-- Why an instruction has no meaning. -/
inductive Refusal where
  /-- Raised only by an arm of `exec` for an instruction not modelled yet; no arm does. Safe. -/
  | notModelled (mnemonic : String)
deriving DecidableEq, Repr

/-- The plain updates. -/
def State.setCu (s : State) (c : CuState) : State := { s with cu := c }
def State.setPc (s : State) (p : Pc) : State := { s with pc := p }
def State.setIr (s : State) (w : Word) : State := { s with ir := w }
def State.setLatches (s : State) (opc : Opcode) (opr : Addr) : State := { s with opc := opc, opr := opr }
def State.setMbr (s : State) (v : Byte) : State := { s with mbr := v }
def State.setIobr (s : State) (v : Byte) : State := { s with iobr := v }
def State.setAcc (s : State) (v : Word) : State := { s with acc := v }
def State.setFlags (s : State) (f : Flags) : State := { s with flags := f }
def State.setBus (s : State) (v : Byte) : State := { s with bus := v }
def State.setAddr (s : State) (a : Addr) : State := { s with addr := a }
def State.setLines (s : State) (iom : Bool) (rw : Direction) (oe : Bool) : State :=
  { s with iom := iom, rw := rw, oe := oe }
def State.setMem (s : State) (m : Memory) : State := { s with mem := m }
def State.setIobuf (s : State) (b : Vector Byte 32) : State := { s with iobuf := b }
def State.setResult (s : State) (r : RunResult) : State := { s with result := r }
def State.setFaultAddr (s : State) (a : BitVec 12) : State := { s with faultAddr := a }
def State.recordDiag (s : State) (r : DiagRecord) : State :=
  { s with diag := s.diag + 1, diagLog := s.diagLog ++ [r] }
def State.countDiag (s : State) : State := { s with diag := s.diag + 1 }
def State.countInstr (s : State) : State := { s with icount := s.icount + 1 }
def State.countTransfer (s : State) : State := { s with transfers := s.transfers + 1 }

/-- The parameters of reset that the spec leaves open (00_scope.md R9, 10_state.md R41). -/
structure ResetParams where
  mbr0   : Byte
  iobr0  : Byte
  iobuf0 : Vector Byte 32
  mem0   : Memory
deriving DecidableEq, Repr

/-- The state after reset, before the host loads a program (10_state.md R41), for given MBR0, IOBR0, IOBUF0 and MEM0. -/
def State.resetWith (p : ResetParams) : State where
  cu := .fetchHigh
  pc := 0x000#12
  ir := 0x0000#16
  opc := 0#5
  opr := 0x000#11
  mbr := p.mbr0
  iobr := p.iobr0
  acc := 0x0000#16
  flags := { zf := false, cf := false, sf := false, of := false }
  bus := 0x00#8
  addr := 0x000#11
  iom := false
  rw := .read
  oe := false
  mem := p.mem0
  iobuf := p.iobuf0
  result := .running
  faultAddr := 0x000#12
  diag := 0
  diagLog := []
  icount := 0
  transfers := 0

/-- DESIGN CHOICE (log entries 1, 2, 3): the values that the spec's own examples give the open parameters (R9: 0x00). -/
def ResetParams.examples : ResetParams where
  mbr0 := 0x00#8
  iobr0 := 0x00#8
  iobuf0 := Vector.replicate 32 0x00#8
  mem0 := []

/-- The machine right after reset, the open parameters at the values of the spec's examples. -/
def State.reset : State := State.resetWith ResetParams.examples

end Sys2Proof.Machine
end

