-- ==== Sys2Proof/Machine/Flags.lean ====
section
/-! DEFINITION. The arithmetic primitives of the ALU and every flag computation (spec/42_alu.md R142-R144, R152, R167, R168). -/

namespace Sys2Proof.Machine

/-- `twosComplement_8(x) = (~x + 1) mod 2^8` (R142). -/
def twosComplement8 (x : Byte) : Byte := ~~~x + 1#8

/-- The exact sum s = a + b of R143, in 9 bits. -/
def sum9 (a b : Byte) : BitVec 9 := a.setWidth 9 + b.setWidth 9

/-- The result r = s mod 2^8 of `Add8(a, b)` (R143). -/
def add8 (a b : Byte) : Byte := (sum9 a b).extractLsb' 0 8

/-- The flags of `Add8(a, b)` (R143). -/
def add8Flags (a b : Byte) : Flags where
  zf := add8 a b == 0x00#8
  cf := (sum9 a b).getLsbD 8
  sf := (add8 a b).getLsbD 7
  of := (a.getLsbD 7 == b.getLsbD 7) && ((add8 a b).getLsbD 7 != a.getLsbD 7)

/-- `LogicFlags(r)` (R144). -/
def logicFlags (r : Byte) : Flags where
  zf := r == 0x00#8
  cf := false
  sf := r.getLsbD 7
  of := false

/-- The flags of a shift with result r, whose shifted-out bit is `out` (R167, R168). -/
def shiftFlags (out : Bool) (r : Byte) : Flags where
  zf := r == 0x00#8
  cf := out
  sf := r.getLsbD 7
  of := false

/-- P does not fit in a signed byte: `P != sext_16(P[7:0])` (R152). -/
def exceedsByte (p : Word) : Bool := p != (p.extractLsb' 0 8).signExtend 16

/-- The multiply flags of a 16-bit product (R152). -/
def productFlags (p : Word) : Flags where
  zf := p == 0x0000#16
  cf := exceedsByte p
  sf := p.getLsbD 15
  of := exceedsByte p

end Sys2Proof.Machine
end

