-- ==== Sys2Proof/Machine/Booth.lean ====
section
/-! DEFINITION. The Booth multiplier (spec/42_alu.md R150). -/

namespace Sys2Proof.Machine

/-- The multiplier's working registers, which live only inside one MUL (10_state.md R38). -/
structure BoothRegs where
  a   : Byte
  q   : Byte
  qm1 : Bool   -- Q₋₁
deriving DecidableEq, Repr

/-- A ← 0x00, Q₋₁ ← 0, Q the multiplier. -/
def boothInit (q : Byte) : BoothRegs where
  a := 0x00#8
  q := q
  qm1 := false

/-- The recoded add or subtract of one iteration, by (Q[0], Q₋₁); every addition is mod 2^8. -/
def boothAdd (m : Byte) (r : BoothRegs) : Byte :=
  match r.q.getLsbD 0, r.qm1 with
  | true, false => r.a + twosComplement8 m
  | false, true => r.a + m
  | false, false => r.a
  | true, true => r.a

/-- One iteration: the recoded add, then the arithmetic shift right of the 17-bit value {A, Q, Q₋₁} with the sign bit of A
replicated. -/
def boothStep (m : Byte) (r : BoothRegs) : BoothRegs where
  a := BitVec.ofBool ((boothAdd m r).getLsbD 7) ++ (boothAdd m r).extractLsb' 1 7
  q := BitVec.ofBool ((boothAdd m r).getLsbD 0) ++ r.q.extractLsb' 1 7
  qm1 := r.q.getLsbD 0

/-- n iterations. -/
def boothLoop (m : Byte) : Nat → BoothRegs → BoothRegs
  | 0, r => r
  | n + 1, r => boothLoop m n (boothStep m r)

/-- `Booth(M, Q)`: 8 iterations, the product {A, Q}. -/
def booth (m q : Byte) : Word :=
  (boothLoop m 8 (boothInit q)).a ++ (boothLoop m 8 (boothInit q)).q

end Sys2Proof.Machine
end

