-- ==== Sys2Proof/Machine/Memory.lean ====
section
/-! DEFINITION. The list of (address, byte) cells behind the bit-chip memory: reading, writing and the canonical form. -/

namespace Sys2Proof.Machine

/-- What an address that the list does not name reads as. DESIGN CHOICE (log entry 1): MEM0 is open (10_state.md R41); the
spec's examples take 0x00 (00_scope.md R9). -/
def unlisted : Byte := 0x00#8

/-- The byte at an address. -/
def Memory.read : Memory → Nat → Byte
  | [], _ => unlisted
  | (a', v') :: m, a => if a' = a then v' else Memory.read m a

/-- Put a cell in front, unless it holds what an unlisted address reads as. -/
def Memory.putCell (a : Nat) (v : Byte) (m : Memory) : Memory := if v = unlisted then m else (a, v) :: m

/-- Store a byte at an address, keeping the canonical form. -/
def Memory.write : Memory → Nat → Byte → Memory
  | [], a, v => Memory.putCell a v []
  | (a', v') :: m, a, v =>
    if a < a' then Memory.putCell a v ((a', v') :: m)
    else if a = a' then Memory.putCell a v m
    else (a', v') :: Memory.write m a v

/-- The canonical form from an address on: addresses strictly rising and in [0, 0x7FF] (20_memory.md R50), no cell equal to
what an unlisted address reads as. -/
def Memory.wfFrom : Nat → Memory → Bool
  | _, [] => true
  | lo, (a, v) :: m => decide (lo ≤ a) && decide (a ≤ 0x7FF) && decide (v ≠ unlisted) && Memory.wfFrom (a + 1) m

/-- The canonical form. -/
def Memory.wf (m : Memory) : Bool := Memory.wfFrom 0 m

end Sys2Proof.Machine
end

