-- ==== Sys2Proof/Machine/Operands.lean ====
section
/-! DEFINITION. The operand forms: how the operand field and the registers are read as operands (spec/30_encoding.md R82,
20_memory.md R61, 42_alu.md R141, 43_control_flow.md R191). The immediate form is `immediateOf` in Decode.lean. -/

namespace Sys2Proof.Machine

/-- The I/O buffer index ADDR[4:0] (20_memory.md R61). -/
def ioIndex (a : Addr) : BitVec 5 := a.extractLsb' 0 5

/-- A branch target, the absolute 11-bit operand, as a PC value in [0x000, 0x7FF] (43_control_flow.md R191). -/
def branchTarget (a : Addr) : Pc := a.setWidth 12

/-- PC[10:0], what a fetch drives on ADDR (40_fetch_decode.md R102). -/
def pcAddr (p : Pc) : Addr := p.extractLsb' 0 11

/-- The ALU's first operand, a = ACC[7:0] (42_alu.md R141). -/
def accLow (s : State) : Byte := s.acc.extractLsb' 0 8

/-- zext_16 of an 8-bit result, which clears ACC[15:8] (42_alu.md R141). -/
def zext16 (v : Byte) : Word := v.setWidth 16

end Sys2Proof.Machine
end

