-- ==== Sys2Proof/Machine/Ops.lean ====
section
/-! DEFINITION. The named operations over memory, the I/O buffer, the bus and the errors (spec/20_memory.md R55-R64,
60_exceptions.md R212, R214). There is no return from an error: the hardware has no trap mechanism (R210, R223). -/

namespace Sys2Proof.Machine

/-- `raise AddressOutOfRange(a)` (60_exceptions.md R212): RESULT <- address-fault, FAULT_ADDR <- a; every other piece of
state keeps its value. -/
def raiseAddressOutOfRange (a : Nat) (s : State) : State :=
  (s.setFaultAddr (BitVec.ofNat 12 a)).setResult .addressFault

/-- The diagnostic record of the instruction now executing: its PC p, two bytes behind PC (10_state.md R28), and its OPC
(60_exceptions.md R214). -/
def diagRecord (s : State) : DiagRecord where
  pc := s.pc - 2#12
  opc := s.opc

/-- `diag InvalidControlSignal` (60_exceptions.md R214): DIAG <- DIAG + 1 and a record; nothing else changes. -/
def diagInvalidControlSignal (s : State) : State := s.recordDiag (diagRecord s)

/-- `MemRead(a, 1)` (20_memory.md R55, R57); `none` is AddressOutOfRange(a). That the byte is the one R57 reconstructs from
the planes is Laws/BitChip.lean's and an obligation's matter. -/
def memRead (a : Nat) (s : State) : Option Byte :=
  if 0x7FF < a then none else some (s.mem.read a)

/-- `MemWrite(a, 1, v)` (20_memory.md R55, R58); `none` is AddressOutOfRange(a). -/
def memWrite (a : Nat) (v : Byte) (s : State) : Option State :=
  if 0x7FF < a then none else some (s.setMem (s.mem.write a v))

/-- `IORead(addr)` (20_memory.md R62). -/
def ioRead (a : Addr) (s : State) : Byte := s.iobuf.get (ioIndex a).toFin

/-- `IOWrite(addr, v)` (20_memory.md R62). -/
def ioWrite (a : Addr) (v : Byte) (s : State) : State :=
  s.setIobuf (s.iobuf.set (ioIndex a).toNat v (ioIndex a).isLt)

/-- `Transfer()`, the single bus operation (20_memory.md R64). -/
def transfer (s : State) : State :=
  match s.oe, s.iom, s.rw with
  | false, _, _ => s
  | true, true, .read =>
    match memRead s.addr.toNat s with
    | some v => (s.setBus v).countTransfer
    | none => raiseAddressOutOfRange s.addr.toNat s
  | true, true, .write =>
    match memWrite s.addr.toNat s.bus s with
    | some s' => s'.countTransfer
    | none => raiseAddressOutOfRange s.addr.toNat s
  | true, false, .read => (s.setBus (ioRead s.addr s)).countTransfer
  | true, false, .write => (ioWrite s.addr s.bus s).countTransfer

/-- Put an address on ADDR, assert the control lines and transfer (40_fetch_decode.md R102, R103; 41_memory_access.md
R120-R124). -/
def transferAt (a : Addr) (iom : Bool) (rw : Direction) (s : State) : State :=
  transfer ((s.setAddr a).setLines iom rw true)

end Sys2Proof.Machine
end

