-- ==== Sys2Proof/Machine/Alu.lean ====
section
/-! DEFINITION. The ALU family (spec/42_alu.md R140, R141, R160-R171). -/

namespace Sys2Proof.Machine

/-- ACC <- zext_16(r), with the flags given (R141). -/
def writeByteResult (r : Byte) (f : Flags) (s : State) : State := (s.setAcc (zext16 r)).setFlags f

/-- ADD (R160). -/
def aluAdd (s : State) : State :=
  writeByteResult (add8 (accLow s) s.bus) (add8Flags (accLow s) s.bus) s

/-- SUB (R161): the addition of the two's complement. -/
def aluSub (s : State) : State :=
  writeByteResult (add8 (accLow s) (twosComplement8 s.bus)) (add8Flags (accLow s) (twosComplement8 s.bus)) s

/-- MUL (R162): multiplicand ACC[7:0], multiplier BUS; all 16 bits of ACC. -/
def aluMul (s : State) : State :=
  (s.setAcc (booth (accLow s) s.bus)).setFlags (productFlags (booth (accLow s) s.bus))

/-- AND (R163). -/
def aluAnd (s : State) : State := writeByteResult (accLow s &&& s.bus) (logicFlags (accLow s &&& s.bus)) s

/-- OR (R164). -/
def aluOr (s : State) : State := writeByteResult (accLow s ||| s.bus) (logicFlags (accLow s ||| s.bus)) s

/-- XOR (R165). -/
def aluXor (s : State) : State := writeByteResult (accLow s ^^^ s.bus) (logicFlags (accLow s ^^^ s.bus)) s

/-- NOT (R166): at 8 bits; BUS is not used. -/
def aluNot (s : State) : State := writeByteResult (~~~(accLow s)) (logicFlags (~~~(accLow s))) s

/-- SHL (R167): r = {a[6:0], 0}, CF <- a[7]. -/
def aluShl (s : State) : State :=
  writeByteResult (accLow s <<< 1) (shiftFlags ((accLow s).getLsbD 7) (accLow s <<< 1)) s

/-- SHR (R168): r = {0, a[7:1]}, CF <- a[0]. -/
def aluShr (s : State) : State :=
  writeByteResult (accLow s >>> 1) (shiftFlags ((accLow s).getLsbD 0) (accLow s >>> 1)) s

/-- WACC (R169): ACC <- zext_16(BUS), no flag. -/
def aluWacc (s : State) : State := s.setAcc (zext16 s.bus)

/-- RACC (R170): BUS <- ACC[7:0], no flag. -/
def aluRacc (s : State) : State := s.setBus (accLow s)

/-- `ALU.execute(op)` (R140): the 11 operations, and the diagnostic for any other (R171). -/
def aluExecute (op : Op) (s : State) : State :=
  match op with
  | .add => aluAdd s
  | .sub => aluSub s
  | .mul => aluMul s
  | .and => aluAnd s
  | .or => aluOr s
  | .xor => aluXor s
  | .not => aluNot s
  | .shl => aluShl s
  | .shr => aluShr s
  | .wacc => aluWacc s
  | .racc => aluRacc s
  | .wm | .rm | .br | .rio | .wio | .wb | .wib | .swap | .brlt | .brgt | .brne | .bre | .eop =>
    diagInvalidControlSignal s

/-- The control unit's side (R141): BUS <- MBR, then ALU.execute(op). -/
def aluCommand (op : Op) (s : State) : State := aluExecute op (s.setBus s.mbr)

/-- ADD (R160). -/
def execAdd (s : State) : Host.Outcome State Fault Refusal := .next (aluCommand .add s)

/-- SUB (R161). -/
def execSub (s : State) : Host.Outcome State Fault Refusal := .next (aluCommand .sub s)

/-- MUL (R162). -/
def execMul (s : State) : Host.Outcome State Fault Refusal := .next (aluCommand .mul s)

/-- AND (R163). -/
def execAnd (s : State) : Host.Outcome State Fault Refusal := .next (aluCommand .and s)

/-- OR (R164). -/
def execOr (s : State) : Host.Outcome State Fault Refusal := .next (aluCommand .or s)

/-- XOR (R165). -/
def execXor (s : State) : Host.Outcome State Fault Refusal := .next (aluCommand .xor s)

/-- NOT (R166). -/
def execNot (s : State) : Host.Outcome State Fault Refusal := .next (aluCommand .not s)

/-- SHL (R167). -/
def execShl (s : State) : Host.Outcome State Fault Refusal := .next (aluCommand .shl s)

/-- SHR (R168). -/
def execShr (s : State) : Host.Outcome State Fault Refusal := .next (aluCommand .shr s)

/-- WACC (R169). -/
def execWacc (s : State) : Host.Outcome State Fault Refusal := .next (aluCommand .wacc s)

/-- RACC (R170, R141): the one result copied back, MBR <- BUS. -/
def execRacc (s : State) : Host.Outcome State Fault Refusal :=
  .next ((aluCommand .racc s).setMbr (aluCommand .racc s).bus)

end Sys2Proof.Machine
end

