-- ==== Sys2Proof/Machine/ControlFlow.lean ====
section
/-! DEFINITION. The control-flow family and termination (spec/43_control_flow.md R190-R196). When EXECUTE begins PC already
holds p + 2. -/

namespace Sys2Proof.Machine

/-- `if taken: PC <- T`, else PC stays (R190-R195). -/
def branchIf (taken : Bool) (addr : Addr) (s : State) : State :=
  match taken with
  | true => s.setPc (branchTarget addr)
  | false => s

/-- BR (R190). -/
def execBr (addr : Addr) (s : State) : Host.Outcome State Fault Refusal := .next (branchIf true addr s)

/-- BRE (R192): ZF = 1. -/
def execBre (addr : Addr) (s : State) : Host.Outcome State Fault Refusal := .next (branchIf s.flags.zf addr s)

/-- BRNE (R193): ZF = 0. -/
def execBrne (addr : Addr) (s : State) : Host.Outcome State Fault Refusal := .next (branchIf (!s.flags.zf) addr s)

/-- BRLT (R194): SF = 1. -/
def execBrlt (addr : Addr) (s : State) : Host.Outcome State Fault Refusal := .next (branchIf s.flags.sf addr s)

/-- BRGT (R195): SF = 0 and ZF = 0. -/
def execBrgt (addr : Addr) (s : State) : Host.Outcome State Fault Refusal :=
  .next (branchIf (!s.flags.sf && !s.flags.zf) addr s)

/-- EOP (R196): RESULT <- success, state <- TERMINATE. -/
def execEop (s : State) : Host.Outcome State Fault Refusal := .next ((s.setResult .success).setCu .terminate)

end Sys2Proof.Machine
end

