-- ==== Sys2Proof/Machine/MemoryAccess.lean ====
section
/-! DEFINITION. The memory-access family (spec/41_memory_access.md R120-R127). -/

namespace Sys2Proof.Machine

/-- WM (R120): BUS <- MBR, then a memory write at A. -/
def execWm (addr : Addr) (s : State) : Host.Outcome State Fault Refusal :=
  .next (transferAt addr true .write (s.setBus s.mbr))

/-- RM (R121): a memory read at A, then MBR <- BUS. -/
def execRm (addr : Addr) (s : State) : Host.Outcome State Fault Refusal :=
  .next ((transferAt addr true .read s).setMbr (transferAt addr true .read s).bus)

/-- RIO (R123): an I/O read at A[4:0], then IOBR <- BUS. -/
def execRio (addr : Addr) (s : State) : Host.Outcome State Fault Refusal :=
  .next ((transferAt addr false .read s).setIobr (transferAt addr false .read s).bus)

/-- WIO (R124): BUS <- IOBR, then an I/O write at A[4:0]. -/
def execWio (addr : Addr) (s : State) : Host.Outcome State Fault Refusal :=
  .next (transferAt addr false .write (s.setBus s.iobr))

/-- WB (R125): MBR <- the immediate. -/
def execWb (imm : Byte) (s : State) : Host.Outcome State Fault Refusal :=
  .next (s.setMbr imm)

/-- WIB (R126): IOBR <- the immediate. -/
def execWib (imm : Byte) (s : State) : Host.Outcome State Fault Refusal :=
  .next (s.setIobr imm)

/-- SWAP (R127): MBR and IOBR exchanged. -/
def execSwap (s : State) : Host.Outcome State Fault Refusal :=
  .next ((s.setMbr s.iobr).setIobr s.mbr)

end Sys2Proof.Machine
end

