-- ==== Sys2Proof/Machine/Dispatch.lean ====
section
/-! DEFINITION. The dispatch of EXECUTE (spec/40_fetch_decode.md R105): one arm per instruction. -/

namespace Sys2Proof.Machine

def exec (i : Instr) (s : State) : Host.Outcome State Fault Refusal :=
  match i with
  | .wm addr => Sys2Proof.Machine.execWm addr s
  | .rm addr => Sys2Proof.Machine.execRm addr s
  | .br addr => Sys2Proof.Machine.execBr addr s
  | .rio addr => Sys2Proof.Machine.execRio addr s
  | .wio addr => Sys2Proof.Machine.execWio addr s
  | .wb imm => Sys2Proof.Machine.execWb imm s
  | .wib imm => Sys2Proof.Machine.execWib imm s
  | .wacc => Sys2Proof.Machine.execWacc s
  | .racc => Sys2Proof.Machine.execRacc s
  | .swap => Sys2Proof.Machine.execSwap s
  | .brlt addr => Sys2Proof.Machine.execBrlt addr s
  | .brgt addr => Sys2Proof.Machine.execBrgt addr s
  | .brne addr => Sys2Proof.Machine.execBrne addr s
  | .bre addr => Sys2Proof.Machine.execBre addr s
  | .shr => Sys2Proof.Machine.execShr s
  | .shl => Sys2Proof.Machine.execShl s
  | .xor => Sys2Proof.Machine.execXor s
  | .not => Sys2Proof.Machine.execNot s
  | .or => Sys2Proof.Machine.execOr s
  | .and => Sys2Proof.Machine.execAnd s
  | .mul => Sys2Proof.Machine.execMul s
  | .sub => Sys2Proof.Machine.execSub s
  | .add => Sys2Proof.Machine.execAdd s
  | .eop => Sys2Proof.Machine.execEop s

end Sys2Proof.Machine
end

