-- ==== Sys2Proof/Machine/Control.lean ====
section
/-! DEFINITION. The control unit: its four states, one state step, and the instruction step that composes them
(spec/40_fetch_decode.md R100-R108; 60_exceptions.md R217-R221). -/

namespace Sys2Proof.Machine

/-- The host bound is reached (60_exceptions.md R218). -/
def boundReached (c : Config) (s : State) : Bool :=
  match c.maxInstr with
  | some n => decide (n ≤ s.icount)
  | none => false

/-- PC lies outside memory, the fetch range check of R101. -/
def pcOutOfRange (s : State) : Bool := decide (0x7FF < s.pc.toNat)

/-- The bus read at PC that both fetch states make (R102, R103). -/
def fetchTransfer (s : State) : State := transferAt (pcAddr s.pc) true .read s

/-- The actions of FETCH_HIGH (R102): IR <- {BUS, 0x00}, PC <- PC + 1. -/
def fetchHighBody (s : State) : State :=
  (((fetchTransfer s).setIr ((fetchTransfer s).bus ++ 0x00#8)).setPc (s.pc + 1#12)).setCu .fetchLow

/-- The actions of FETCH_LOW (R103): IR <- IR | zext_16(BUS), PC <- PC + 1. -/
def fetchLowBody (s : State) : State :=
  (((fetchTransfer s).setIr (s.ir ||| (fetchTransfer s).bus.setWidth 16)).setPc (s.pc + 1#12)).setCu .decode

/-- The actions of DECODE (R104). -/
def decodeBody (s : State) : State :=
  ((s.setLatches (opcodeField s.ir) (operandField s.ir)).countInstr).setCu .execute

/-- FETCH_HIGH: the host bound first (60_exceptions.md R218, R219), then the range check (R101), then R102. -/
def cuFetchHigh (c : Config) (s : State) : State :=
  if boundReached c s then s.setResult .runaway
  else if pcOutOfRange s then raiseAddressOutOfRange s.pc.toNat s
  else fetchHighBody s

/-- FETCH_LOW: the range check (R101), then R103. -/
def cuFetchLow (s : State) : State :=
  if pcOutOfRange s then raiseAddressOutOfRange s.pc.toNat s else fetchLowBody s

/-- After EXECUTE: FETCH_HIGH, unless the instruction was EOP or RESULT has left `running` (R107). -/
def afterExecute (s : State) : State :=
  if s.cu = .terminate ∨ s.result ≠ .running then s else s.setCu .fetchHigh

/-- An unrecognized opcode (R106). `permissive`: a diagnostic, then the next instruction. `strict`: DIAG + 1 and the end of
the run, and no other state changes (log entry 10). -/
def unrecognized (mode : DecodeMode) (s : State) : State :=
  match mode with
  | .permissive => (diagInvalidControlSignal s).setCu .fetchHigh
  | .strict => s.countDiag.setResult .invalidOpcode

/-- EXECUTE (R105-R107): the instruction that the latches OPC and OPR hold. -/
def cuExecute (c : Config) (s : State) : Host.Outcome State Fault Refusal :=
  match decodeFields c.opcodeMap s.opc s.opr with
  | some i =>
    match exec i s with
    | .next s' => .next (afterExecute s')
    | .fault r => .fault r
    | .refused r => .refused r
  | none => .next (unrecognized c.decodeMode s)

/-- One state step of the control unit (R100), taken only while RESULT = running (60_exceptions.md R220). -/
def cuStep (c : Config) (s : State) : Host.Outcome State Fault Refusal :=
  if s.result = .running then
    match s.cu with
    | .fetchHigh => .next (cuFetchHigh c s)
    | .fetchLow => .next (cuFetchLow s)
    | .decode => .next (decodeBody s)
    | .execute => cuExecute c s
    | .terminate => .fault .terminated
  else .fault (.runEnded s.result)

/-- An instruction step ends here: the next instruction's FETCH_HIGH, or the end of the run. -/
def atBoundary (s : State) : Bool := decide (s.cu = .fetchHigh) || decide (s.result ≠ .running)

/-- At most n state steps, up to the end of the instruction. -/
def cuSteps (c : Config) : Nat → State → Host.Outcome State Fault Refusal
  | 0, s => .next s
  | n + 1, s =>
    match cuStep c s with
    | .next s' => if atBoundary s' then .next s' else cuSteps c n s'
    | .fault r => .fault r
    | .refused r => .refused r

/-- The instruction step (R108): the composition of the four state steps. From a state inside an instruction it takes the
rest of that instruction. -/
def stepWith (c : Config) (s : State) : Host.Outcome State Fault Refusal := cuSteps c 4 s

/-- Store a byte as the loader does (70_reset_and_hazards.md R244); an address outside memory stores nothing. -/
def placeByte (a : Nat) (v : Byte) (s : State) : State := (memWrite a v s).getD s

/-- Make the next step fetch and run the given word: its bytes at PC, high byte first (20_memory.md R60), the control unit
about to fetch. -/
def placeWord (w : Word) (s : State) : State :=
  ((placeByte (s.pc.toNat + 1) (w.extractLsb' 0 8) (placeByte s.pc.toNat (w.extractLsb' 8 8) s)).setCu .fetchHigh).setResult
    .running

end Sys2Proof.Machine
end

