-- ==== Sys2Proof/Machine/Step.lean ====
section
/-! DEFINITION. The machine's step: the instruction step (spec/40_fetch_decode.md R108) under the defaults of
spec/00_scope.md R9. Every other configuration is `stepWith`. -/

namespace Sys2Proof.Machine

/-- One instruction step under the default configuration. -/
def step : State → Host.Outcome State Fault Refusal := stepWith defaultConfig

/-- `s` with the instruction whose bits are `w` (bits above `nbits` zero) stored at PC, where the next step fetches it. -/
def State.withFetchWord (s : State) (nbits w : Nat) : State := placeWord (BitVec.ofNat 16 (w % 2 ^ nbits)) s

end Sys2Proof.Machine
end

