-- ==== Sys2Proof/WellFormed.lean ====
section
/-! DEFINITION. The checks on what is given to the machine from outside: an opcode map (R83), a written instruction (R88)
and a loader image (R244). An `Instr` itself needs no check: its fields have the exact widths of R82, and R87 says that
every operand value of an assigned opcode is that instruction. -/

namespace Sys2Proof

/-- OPCODE_MAP gives 24 distinct 5-bit codes (30_encoding.md R83). -/
abbrev OpcodeMap.WellFormed (m : OpcodeMap) : Prop := (Op.all.map m).Nodup

/-- A configuration is well formed when its opcode map is; DECODE_MODE and MAX_INSTR may be any of their values (R9). -/
abbrev Config.WellFormed (c : Config) : Prop := c.opcodeMap.WellFormed

/-- What an assembler accepts after a mnemonic (30_encoding.md R88): an operand exactly when R82 gives the instruction one,
an address in [0x000, 0x7FF], an immediate in [0x00, 0xFF]. -/
def OperandKind.accepts : OperandKind → Option Nat → Bool
  | .address, some n => decide (n ≤ 0x7FF)
  | .address, none => false
  | .immediate, some n => decide (n ≤ 0xFF)
  | .immediate, none => false
  | .absent, some _ => false
  | .absent, none => true

/-- A loader image: bytes at addresses (70_reset_and_hazards.md R244). -/
abbrev Image := List (Nat × Byte)

/-- Every address of the image lies in [0, 2047] (R244). -/
def Image.inRange (img : Image) : Bool := img.all (fun c => decide (c.1 ≤ 0x7FF))

/-- An image is a partial map from addresses to bytes: each address is given at most once (R244). -/
def Image.isMap (img : Image) : Bool := decide ((img.map Prod.fst).Nodup)

end Sys2Proof
end

