-- ==== Sys2Proof/Machine/Assembler.lean ====
section
/-! DEFINITION. The assembler syntax that spec/30_encoding.md R88 fixes (92_eei_decisions.md D23): `MNEMONIC [operand]`, one
instruction a line, labels, comments. There are no pseudo-instructions (R89). Nothing of the machine depends on it. What R88
leaves open (blanks, the letters of a name) is log entry 21's. -/

namespace Sys2Proof.Machine

/-- Source text, as characters. -/
abbrev Text := List Char

/-- The mnemonics of R84. -/
def mnemonic : Op → Text
  | .wm => "WM".toList
  | .rm => "RM".toList
  | .br => "BR".toList
  | .rio => "RIO".toList
  | .wio => "WIO".toList
  | .wb => "WB".toList
  | .wib => "WIB".toList
  | .wacc => "WACC".toList
  | .racc => "RACC".toList
  | .swap => "SWAP".toList
  | .brlt => "BRLT".toList
  | .brgt => "BRGT".toList
  | .brne => "BRNE".toList
  | .bre => "BRE".toList
  | .shr => "SHR".toList
  | .shl => "SHL".toList
  | .xor => "XOR".toList
  | .not => "NOT".toList
  | .or => "OR".toList
  | .and => "AND".toList
  | .mul => "MUL".toList
  | .sub => "SUB".toList
  | .add => "ADD".toList
  | .eop => "EOP".toList

/-- The operation that a word of source names; SHIFT_LEFT and SHIFT_RIGHT are accepted for SHL and SHR (R88). -/
def mnemonicOp (t : Text) : Option Op :=
  if t = "SHIFT_LEFT".toList then some .shl
  else if t = "SHIFT_RIGHT".toList then some .shr
  else Op.all.find? (fun o => mnemonic o == t)

/-- An operand as written. -/
inductive AsmOperand where
  | number (n : Nat)
  | label (name : Text)
deriving DecidableEq, Repr

/-- A line as written: a label, an instruction, both or neither. -/
structure AsmLine where
  label : Option Text
  instr : Option (Op × Option AsmOperand)
deriving DecidableEq, Repr

/-- Why the assembler refuses a program. -/
inductive AsmError where
  | badLabel           -- what stands before a colon is no name
  | unknownMnemonic
  | badOperand         -- neither a number nor a name
  | extraText          -- more than one operand
  | operandRefused     -- missing, not wanted, or out of range (R88: refused, not truncated)
  | unknownLabel
  | duplicateLabel
deriving DecidableEq, Repr

/-- The pieces of a text between separators. -/
def splitBy (sep : Char → Bool) : Text → List Text
  | [] => [[]]
  | c :: cs =>
    match sep c, splitBy sep cs with
    | true, ps => [] :: ps
    | false, p :: ps => (c :: p) :: ps
    | false, [] => [[c]]

/-- Space, tab and carriage return separate the words of a line. -/
def isBlank (c : Char) : Bool := c == ' ' || c == '\t' || c == '\r'

/-- The words of a line. -/
def wordsOf (t : Text) : List Text := (splitBy isBlank t).filter (fun w => !w.isEmpty)

/-- The value of a digit, in either case of letter. -/
def digitValue (c : Char) : Option Nat :=
  if '0' ≤ c ∧ c ≤ '9' then some (c.toNat - '0'.toNat)
  else if 'a' ≤ c ∧ c ≤ 'f' then some (c.toNat - 'a'.toNat + 10)
  else if 'A' ≤ c ∧ c ≤ 'F' then some (c.toNat - 'A'.toNat + 10)
  else none

/-- Digits of a base read from the most significant on, after a value already read. -/
def parseDigits (base : Nat) : Nat → Text → Option Nat
  | acc, [] => some acc
  | acc, c :: cs =>
    match digitValue c with
    | some d => if d < base then parseDigits base (acc * base + d) cs else none
    | none => none

/-- A number: `0x` and hexadecimal digits, or decimal digits (R88). -/
def parseNumber : Text → Option Nat
  | '0' :: 'x' :: d :: ds => parseDigits 16 0 (d :: ds)
  | d :: ds => parseDigits 10 0 (d :: ds)
  | [] => none

/-- A letter or underscore. -/
def isNameStart (c : Char) : Bool := c.isAlpha || c == '_'

/-- A name: a letter or underscore, then letters, digits and underscores. -/
def isName : Text → Bool
  | [] => false
  | c :: cs => isNameStart c && cs.all (fun d => isNameStart d || d.isDigit)

/-- An operand: a number, or the name of a label. -/
def parseOperand (t : Text) : Option AsmOperand :=
  match parseNumber t with
  | some n => some (.number n)
  | none => if isName t then some (.label t) else none

/-- The instruction of a line's words. -/
def parseInstr : List Text → Except AsmError (Option (Op × Option AsmOperand))
  | [] => .ok none
  | [m] =>
    match mnemonicOp m with
    | some o => .ok (some (o, none))
    | none => .error .unknownMnemonic
  | [m, t] =>
    match mnemonicOp m, parseOperand t with
    | some o, some x => .ok (some (o, some x))
    | some _, none => .error .badOperand
    | none, _ => .error .unknownMnemonic
  | _ :: _ :: _ :: _ => .error .extraText

/-- One line: the comment dropped, a label taken off, the rest an instruction (R88). -/
def parseLine (t : Text) : Except AsmError AsmLine :=
  match splitBy (fun c => c == ':') (t.takeWhile (fun c => c != ';')) with
  | [body] =>
    match parseInstr (wordsOf body) with
    | .ok i => .ok { label := none, instr := i }
    | .error e => .error e
  | [name, body] =>
    if isName name then
      match parseInstr (wordsOf body) with
      | .ok i => .ok { label := some name, instr := i }
      | .error e => .error e
    else .error .badLabel
  | _ => .error .badLabel

/-- Every line of a program. -/
def parseLines : List Text → Except AsmError (List AsmLine)
  | [] => .ok []
  | t :: ts =>
    match parseLine t, parseLines ts with
    | .ok l, .ok ls => .ok (l :: ls)
    | .ok _, .error e => .error e
    | .error e, _ => .error e

/-- The address of the line after one that stands at `at`: an instruction takes two bytes (R81). -/
def nextAddress (at_ : Nat) (l : AsmLine) : Nat :=
  match l.instr with
  | some _ => at_ + 2
  | none => at_

/-- The labels with their addresses: a label stands for the address of the next instruction (R88). DESIGN CHOICE (log entry
21): a label with no instruction after it stands for the address just past the last instruction, on which R88 is silent. -/
def labelTable : Nat → List AsmLine → List (Text × Nat)
  | _, [] => []
  | at_, l :: ls =>
    match l.label with
    | some name => (name, at_) :: labelTable (nextAddress at_ l) ls
    | none => labelTable (nextAddress at_ l) ls

/-- The address of a label. -/
def labelAddress (table : List (Text × Nat)) (name : Text) : Option Nat :=
  (table.find? (fun e => e.1 == name)).map Prod.snd

/-- The value of an operand; only an address operand may name a label (R88). -/
def operandValue (table : List (Text × Nat)) (k : OperandKind) : Option AsmOperand → Except AsmError (Option Nat)
  | none => .ok none
  | some (.number n) => .ok (some n)
  | some (.label name) =>
    match k with
    | .address =>
      match labelAddress table name with
      | some a => .ok (some a)
      | none => .error .unknownLabel
    | .immediate => .error .operandRefused
    | .absent => .error .operandRefused

/-- `word = (OPCODE_MAP(mnemonic) << 11) | operand`, operand 0 when none is written; refused unless R88 accepts the
operand. -/
def assembleInstr (m : OpcodeMap) (o : Op) (operand : Option Nat) : Except AsmError Word :=
  if o.kind.accepts operand then .ok (m o ++ BitVec.ofNat 11 (operand.getD 0)) else .error .operandRefused

/-- The words of the lines. -/
def assembleLines (m : OpcodeMap) (table : List (Text × Nat)) : List AsmLine → Except AsmError (List Word)
  | [] => .ok []
  | l :: ls =>
    match l.instr with
    | none => assembleLines m table ls
    | some (o, x) =>
      match operandValue table o.kind x with
      | .error e => .error e
      | .ok v =>
        match assembleInstr m o v, assembleLines m table ls with
        | .ok w, .ok ws => .ok (w :: ws)
        | .ok _, .error e => .error e
        | .error e, _ => .error e

/-- The words of a program, which stand at consecutive addresses from 0 (70_reset_and_hazards.md R244). -/
def assemble (m : OpcodeMap) (source : Text) : Except AsmError (List Word) :=
  match parseLines (splitBy (fun c => c == '\n') source) with
  | .error e => .error e
  | .ok ls =>
    if ((labelTable 0 ls).map Prod.fst).Nodup then assembleLines m (labelTable 0 ls) ls else .error .duplicateLabel

end Sys2Proof.Machine
end

