-- ==== Sys2Proof/Machine/BitChip.lean ====
section
/-! DEFINITION. The bit-chip memory as planes (spec/20_memory.md R51-R58): the address decomposition, the plane words that
the stored bytes make up, and the read and write of one byte through the planes. -/

namespace Sys2Proof.Machine

/-- `bank(a) = (a >> 10) & 0x1` (R52); bank A is 0 and bank B is 1 (R51). -/
def bankOf (a : Nat) : Nat := (a >>> 10) &&& 0x1

/-- `row(a) = (a >> 5) & 0x1F` (R52). -/
def rowOf (a : Nat) : Nat := (a >>> 5) &&& 0x1F

/-- `column(a) = a & 0x1F` (R52). -/
def columnOf (a : Nat) : Nat := a &&& 0x1F

/-- The address of a bank, row and column: the inverse of R52. -/
def composeAddr (b r c : Nat) : Nat := b * 1024 + r * 32 + c

/-- The bit of plane k of bank b at row r, column c: bit 7-k of the byte stored there (R53, R54). -/
def planeBit (m : Memory) (b k r c : Nat) : Bool := (m.read (composeAddr b r c)).getLsbD (7 - k)

/-- The low n columns of a row of a plane, column c at bit c (R54). -/
def planeColumns (m : Memory) (b k r : Nat) : (n : Nat) → BitVec n
  | 0 => 0#0
  | n + 1 => BitVec.cons (planeBit m b k r n) (planeColumns m b k r n)

/-- PLANES[b][k][r], a 32-bit word (10_state.md R36). -/
def planeWord (m : Memory) (b k r : Nat) : BitVec 32 := planeColumns m b k r 32

/-- The loop of R57 over planes 0 to n-1 of given planes at (b, r, c): each plane's bit is shifted in from the right. -/
def reconstruct (planes : Nat → Nat → Nat → BitVec 32) (b r c : Nat) : Nat → Byte
  | 0 => 0x00#8
  | n + 1 => ((reconstruct planes b r c n) <<< 1) ||| (((planes b n r) >>> c) &&& 1#32).setWidth 8

/-- The byte that the bit-plane multiplexer and byte reconstruction give for an address (R56, R57). -/
def readPlanes (planes : Nat → Nat → Nat → BitVec 32) (a : Nat) : Byte :=
  reconstruct planes (bankOf a) (rowOf a) (columnOf a) 8

/-- PLANES[b][k][r] after R58 writes the byte v at address a: in the addressed bank and row, column c of plane k gets
bit 7-k of v; every other word is unchanged. -/
def writtenPlane (planes : Nat → Nat → Nat → BitVec 32) (a : Nat) (v : Byte) (b k r : Nat) : BitVec 32 :=
  if b = bankOf a ∧ r = rowOf a then
    (planes b k r &&& ~~~(1#32 <<< columnOf a)) ||| ((BitVec.ofBool (v.getLsbD (7 - k))).setWidth 32 <<< columnOf a)
  else planes b k r

end Sys2Proof.Machine
end

