-- ==== Sys2Proof/Machine/Loader.lean ====
section
/-! DEFINITION. The program-load interface (spec/70_reset_and_hazards.md R244). The host uses it between reset and the first
step only (R244, R245). -/

namespace Sys2Proof.Machine

/-- The loader writes each byte of the image with MemWrite; an address outside [0, 2047] is refused with
AddressOutOfRange(a), and the run does not start (R244). -/
def loadImage : Image → State → Except Nat State
  | [], s => .ok s
  | (a, v) :: img, s =>
    match memWrite a v s with
    | some s' => loadImage img s'
    | none => .error a

/-- The normal image: instruction words at consecutive addresses from `start` on, each word's high byte first (R244). -/
def wordsImage : Nat → List Word → Image
  | _, [] => []
  | start, w :: ws => (start, w.extractLsb' 8 8) :: (start + 1, w.extractLsb' 0 8) :: wordsImage (start + 2) ws

end Sys2Proof.Machine
end

