-- ==== Sys2Proof/Machine/Report.lean ====
section
/-! DEFINITION. The final report (spec/60_exceptions.md R222). -/

namespace Sys2Proof.Machine

/-- The final register snapshot (R222). Memory and the I/O buffer are read from the state itself. -/
structure Snapshot where
  pc     : Pc
  ir     : Word
  opc    : Opcode
  opr    : Addr
  acc    : Word
  zf     : Bool
  cf     : Bool
  sf     : Bool
  of     : Bool
  mbr    : Byte
  iobr   : Byte
  bus    : Byte
  addr   : Addr
  iom    : Bool
  rw     : Direction
  oe     : Bool
  diag   : Nat
  icount : Nat
deriving DecidableEq, Repr

/-- How a run ended: RESULT once it has left `running` (R222). -/
inductive RunEnd where
  | success
  | addressFault (faultAddr : BitVec 12)
  | runaway
  | invalidOpcode
deriving DecidableEq, Repr

/-- The snapshot of a state. -/
def snapshot (s : State) : Snapshot where
  pc := s.pc
  ir := s.ir
  opc := s.opc
  opr := s.opr
  acc := s.acc
  zf := s.flags.zf
  cf := s.flags.cf
  sf := s.flags.sf
  of := s.flags.of
  mbr := s.mbr
  iobr := s.iobr
  bus := s.bus
  addr := s.addr
  iom := s.iom
  rw := s.rw
  oe := s.oe
  diag := s.diag
  icount := s.icount

/-- RESULT as the host receives it at the end of a run; none while the run goes on (R222). -/
def runEnd (s : State) : Option RunEnd :=
  match s.result with
  | .running => none
  | .success => some .success
  | .addressFault => some (.addressFault s.faultAddr)
  | .runaway => some .runaway
  | .invalidOpcode => some .invalidOpcode

/-- The final report: the end of the run with the final register snapshot (R222). -/
def finalReport (s : State) : Option (RunEnd × Snapshot) :=
  match runEnd s with
  | some e => some (e, snapshot s)
  | none => none

end Sys2Proof.Machine
end

