-- ==== Sys2Proof/Machine/Trace.lean ====
section
/-! DEFINITION. The trace record of an executed instruction (spec/60_exceptions.md R228). Emitting it changes no state. -/

namespace Sys2Proof.Machine

/-- RW as a bit, for the trace record only: Write = 1, Read = 0 (10_state.md R30). -/
def rwBit : Direction → Bool
  | .read => false
  | .write => true

/-- The fields of R228. -/
structure TraceRecord where
  pc   : Pc
  ir   : Word
  opc  : Opcode
  opr  : Addr
  iom  : Bool
  rw   : Bool
  oe   : Bool
  bus  : Byte
  addr : Addr
  mbr  : Byte
  iobr : Byte
  acc  : Word
  zf   : Bool
  cf   : Bool
  sf   : Bool
  of   : Bool
deriving DecidableEq, Repr

/-- The record taken of a state after EXECUTE (R228). -/
def traceRecord (s : State) : TraceRecord where
  pc := s.pc
  ir := s.ir
  opc := s.opc
  opr := s.opr
  iom := s.iom
  rw := rwBit s.rw
  oe := s.oe
  bus := s.bus
  addr := s.addr
  mbr := s.mbr
  iobr := s.iobr
  acc := s.acc
  zf := s.flags.zf
  cf := s.flags.cf
  sf := s.flags.sf
  of := s.flags.of

/-- The record that an instruction step emits: one for an instruction that ran through EXECUTE, the unrecognized opcode of
permissive mode among them, none for a step that a fatal error ended (log entry 11). -/
def stepTrace (c : Config) (s : State) : Option TraceRecord :=
  match stepWith c s with
  | .next s' =>
    match s'.result with
    | .running => some (traceRecord s')
    | .success => some (traceRecord s')
    | .addressFault => none
    | .runaway => none
    | .invalidOpcode => none
  | .fault _ => none
  | .refused _ => none

end Sys2Proof.Machine
end

