-- ==== Sys2Proof/Machine/Run.lean ====
section
/-! DEFINITION. A run, in the boot order of spec/70_reset_and_hazards.md R245: reset, load, steps until RESULT leaves
`running`, report. -/

namespace Sys2Proof.Machine

/-- The state of an outcome, where it is one. -/
def nextState : Host.Outcome State Fault Refusal → Option State
  | .next s => some s
  | .fault _ => none
  | .refused _ => none

/-- At most n instruction steps; a state whose run has ended stays (60_exceptions.md R220). -/
def runSteps (c : Config) : Nat → State → State
  | 0, s => s
  | n + 1, s =>
    match stepWith c s with
    | .next s' => runSteps c n s'
    | .fault _ => s
    | .refused _ => s

/-- The trace of at most n instruction steps: one record per executed instruction (60_exceptions.md R228). -/
def runTrace (c : Config) : Nat → State → List TraceRecord
  | 0, _ => []
  | n + 1, s =>
    match stepWith c s with
    | .next s' => (stepTrace c s).toList ++ runTrace c n s'
    | .fault _ => []
    | .refused _ => []

/-- Steps 1 and 2 of R245: reset, then the image; an image with an address outside memory is refused (R244). -/
def boot (p : ResetParams) (img : Image) : Except Nat State := loadImage img (State.resetWith p)

/-- R245 with at most n instruction steps; the report is `none` when the run has not ended by then. -/
def bootAndRun (c : Config) (p : ResetParams) (img : Image) (n : Nat) : Except Nat (Option (RunEnd × Snapshot)) :=
  match boot p img with
  | .ok s => .ok (finalReport (runSteps c n s))
  | .error a => .error a

end Sys2Proof.Machine
end

