-- ==== Sys2Proof/Safety.lean ====
section
/-! DEFINITION. What counts as a safe state and a sound state: the fault states of spec/60_exceptions.md R220 and the
invariants of the machine. -/

namespace Sys2Proof.Machine

/-- A fault state (60_exceptions.md R220): RESULT is address-fault, runaway or invalid-opcode. -/
def FaultState (s : State) : Prop :=
  s.result = .addressFault ∨ s.result = .runaway ∨ s.result = .invalidOpcode

/-- A safe state is none of the fault states: the run goes on or has ended with success. -/
def SafeState (s : State) : Prop := s.result = .running ∨ s.result = .success

/-- The memory is in canonical form. -/
def MemCanonical (s : State) : Prop := s.mem.wf = true

/-- PC takes values in [0x000, 0x800] (10_state.md R28). -/
def PcInRange (s : State) : Prop := s.pc.toNat ≤ 0x800

/-- While EXECUTE or DECODE is next, PC is two bytes behind the instruction's first byte; while FETCH_LOW is next, one
(10_state.md R28, 40_fetch_decode.md R109). -/
def PcPastFetched (s : State) : Prop :=
  (s.cu = .fetchLow → 1 ≤ s.pc.toNat) ∧ ((s.cu = .decode ∨ s.cu = .execute ∨ s.cu = .terminate) → 2 ≤ s.pc.toNat)

/-- Between FETCH_HIGH and FETCH_LOW the low byte of IR is clear (40_fetch_decode.md R102). -/
def IrLowClear (s : State) : Prop := s.cu = .fetchLow → s.ir.extractLsb' 0 8 = 0x00#8

/-- In EXECUTE the latches OPC and OPR hold the fields of IR (10_state.md R27). -/
def LatchesHoldIr (s : State) : Prop :=
  s.cu = .execute → s.opc = s.ir.extractLsb' 11 5 ∧ s.opr = s.ir.extractLsb' 0 11

/-- TERMINATE and `success` come together (43_control_flow.md R196, 60_exceptions.md R216). -/
def TerminateIsSuccess (s : State) : Prop := s.cu = .terminate ↔ s.result = .success

/-- Where each fatal error leaves the control unit (40_fetch_decode.md R101, R106; 60_exceptions.md R212, R218): an address
fault in a fetch state with PC and FAULT_ADDR at 0x800, a runaway in FETCH_HIGH, an invalid opcode in EXECUTE. -/
def FaultPlace (s : State) : Prop :=
  (s.result = .addressFault → (s.cu = .fetchHigh ∨ s.cu = .fetchLow) ∧ s.pc = 0x800#12 ∧ s.faultAddr = 0x800#12)
  ∧ (s.result = .runaway → s.cu = .fetchHigh)
  ∧ (s.result = .invalidOpcode → s.cu = .execute)

/-- FAULT_ADDR is written only by a fault (10_state.md R33, R41). -/
def FaultAddrUnset (s : State) : Prop := s.result ≠ .addressFault → s.faultAddr = 0x000#12

/-- Each diagnostic has its record, and no instruction makes two (60_exceptions.md R214, R217, R219): DIAG is the number of
records, plus one after a strict-mode invalid opcode, and is at most ICOUNT, less one in EXECUTE while the run goes on. -/
def DiagCounts (s : State) : Prop :=
  s.diag = s.diagLog.length + (if s.result = .invalidOpcode then 1 else 0)
  ∧ s.diag ≤ s.icount ∧ (s.cu = .execute → s.result = .running → s.diag + 1 ≤ s.icount)

/-- The bus transfers that an instruction under way has made since its FETCH_HIGH began (40_fetch_decode.md R110). -/
def transfersUnderWay : CuState → Nat
  | .fetchHigh => 0
  | .fetchLow => 1
  | .decode => 2
  | .execute => 0
  | .terminate => 0

/-- Every counted instruction has made 2 or 3 transfers, plus those of the instruction under way (40_fetch_decode.md R110);
the instruction about to execute is counted and has made 2. -/
def TransferCounts (s : State) : Prop :=
  2 * s.icount + transfersUnderWay s.cu ≤ s.transfers ∧ s.transfers ≤ 3 * s.icount + transfersUnderWay s.cu
  ∧ (s.cu = .execute → s.transfers + 1 ≤ 3 * s.icount)

/-- The machine's invariant. -/
structure Inv (s : State) : Prop where
  memCanonical : MemCanonical s
  pcInRange : PcInRange s
  pcPastFetched : PcPastFetched s
  irLowClear : IrLowClear s
  latchesHoldIr : LatchesHoldIr s
  terminateIsSuccess : TerminateIsSuccess s
  faultPlace : FaultPlace s
  faultAddrUnset : FaultAddrUnset s
  diagCounts : DiagCounts s
  transferCounts : TransferCounts s

end Sys2Proof.Machine
end

