-- ==== Sys2Proof/Certificates/Slice0/Obligations.lean ====
section
/-! DEFINITION. The statements for the provers, each from the numbered rules of spec/ that its docstring names. -/

open Sys2Proof Sys2Proof.Machine

namespace Sys2Proof.Claims

/-- The instruction word at an address, high byte first (20_memory.md R60). -/
def wordAt (s : State) (p : Nat) : Word := s.mem.read p ++ s.mem.read (p + 1)

/-- The host bound does not stop the run here (60_exceptions.md R218). -/
def BelowBound (c : Config) (s : State) : Prop := ∀ n, c.maxInstr = some n → s.icount < n

/-- The control unit is about to fetch an instruction whose two bytes lie in memory. -/
structure FetchReady (c : Config) (s : State) : Prop where
  running : s.result = .running
  atFetch : s.cu = .fetchHigh
  below : BelowBound c s
  inMemory : s.pc.toNat ≤ 0x7FE

/-- The state as EXECUTE finds it, after FETCH_HIGH, FETCH_LOW and DECODE (40_fetch_decode.md R102-R104). -/
def fetched (s : State) : State :=
  { s with
    cu := .execute
    pc := s.pc + 2#12
    ir := wordAt s s.pc.toNat
    opc := (wordAt s s.pc.toNat).extractLsb' 11 5
    opr := (wordAt s s.pc.toNat).extractLsb' 0 11
    bus := s.mem.read (s.pc.toNat + 1)
    addr := (s.pc + 1#12).setWidth 11
    iom := true
    rw := .read
    oe := true
    icount := s.icount + 1
    transfers := s.transfers + 2 }

/-- An unassigned code of an opcode map (30_encoding.md R86). -/
def Unassigned (m : OpcodeMap) (code : Opcode) : Prop := ∀ o, m o ≠ code

/-- The signed value of a byte lies outside [-128, 127]. -/
def OutsideByte (x : Int) : Prop := x < -128 ∨ 127 < x

/-- The PC that an instruction leaves, PC holding p + 2 when it executes (40_fetch_decode.md R109; 43_control_flow.md
R190-R195). -/
def pcAfter (i : Instr) (f : Flags) (next : Pc) : Pc :=
  match i with
  | .br a => a.setWidth 12
  | .bre a => if f.zf = true then a.setWidth 12 else next
  | .brne a => if f.zf = false then a.setWidth 12 else next
  | .brlt a => if f.sf = true then a.setWidth 12 else next
  | .brgt a => if f.sf = false ∧ f.zf = false then a.setWidth 12 else next
  | .wm _ | .rm _ | .rio _ | .wio _ | .wb _ | .wib _ | .wacc | .racc | .swap | .shr | .shl | .xor | .not | .or | .and
  | .mul | .sub | .add | .eop => next

/-- The transfers an instruction makes in EXECUTE (40_fetch_decode.md R110). -/
def executeTransfers : Instr → Nat
  | .wm _ | .rm _ | .rio _ | .wio _ => 1
  | .br _ | .bre _ | .brne _ | .brlt _ | .brgt _ | .wb _ | .wib _ | .wacc | .racc | .swap | .shr | .shl | .xor | .not | .or
  | .and | .mul | .sub | .add | .eop => 0

/-- The same state but for ACC[15:8]. -/
def SameButAccHigh (s t : State) : Prop :=
  t = { s with acc := t.acc } ∧ t.acc.extractLsb' 0 8 = s.acc.extractLsb' 0 8

/-- The same state but for CF and OF. -/
def SameButCarryOverflow (s t : State) : Prop :=
  t = { s with flags := t.flags } ∧ t.flags.zf = s.flags.zf ∧ t.flags.sf = s.flags.sf

/-- The same state but for the host's bookkeeping: DIAG and its records, ICOUNT, FAULT_ADDR and the transfer count. -/
def SameButBookkeeping (s t : State) : Prop :=
  t = { s with diag := t.diag, diagLog := t.diagLog, icount := t.icount, faultAddr := t.faultAddr, transfers := t.transfers }

/-- The instructions that write ACC (10_state.md R21). -/
def accWriters : List Op := [.add, .sub, .mul, .and, .or, .xor, .not, .shl, .shr, .wacc]

/-- The instructions that write the flags (10_state.md R23). -/
def flagWriters : List Op := [.add, .sub, .mul, .and, .or, .xor, .not, .shl, .shr]

end Sys2Proof.Claims

open Sys2Proof.Claims

/-! Encoding -/

/-- R90: the worked encodings, and one decoded word per family written out from R84. -/
def Obligations.WorkedWordsEncodeAndDecode : Prop :=
  encode defaultOpcodeMap (.wb 0x05#8) = 0x3005#16
  ∧ encodeBytes defaultOpcodeMap (.wb 0x05#8) = [0x30#8, 0x05#8]
  ∧ encode defaultOpcodeMap .add = 0xF000#16
  ∧ encodeBytes defaultOpcodeMap .add = [0xF0#8, 0x00#8]
  ∧ encode defaultOpcodeMap .eop = 0xF800#16
  ∧ decodeWord defaultOpcodeMap 0b00001_10000000000#16 = .ok (.wm 0x400#11)
  ∧ decodeWord defaultOpcodeMap 0b11110_00000000000#16 = .ok .add
  ∧ decodeWord defaultOpcodeMap 0b10001_00000001110#16 = .ok (.brlt 0x00E#11)
  ∧ decodeWord defaultOpcodeMap 0b11111_11111111111#16 = .ok .eop

/-- R83: under any map of 24 distinct codes, every instruction is read back from its word. -/
def Obligations.DecodeReadsBackEncode : Prop :=
  ∀ (m : OpcodeMap) (i : Instr), m.WellFormed →
    decodeWord m (encode m i) = .ok i ∧ decodeBytes m (encodeBytes m i) = .ok (i, [])

/-- R80, R82: what a word decodes to has the word's opcode and the operand bits that its kind uses. -/
def Obligations.DecodedFieldsAreTheWords : Prop :=
  ∀ (m : OpcodeMap) (w : Word) (i : Instr), decodeWord m w = .ok i →
    m i.op = w.extractLsb' 11 5
    ∧ (i.op.kind = .address → i.operand = w.extractLsb' 0 11)
    ∧ (i.op.kind = .immediate → i.operand = (w.extractLsb' 0 8).setWidth 11)
    ∧ (i.op.kind = .absent → i.operand = 0#11)

/-- R87: any assigned opcode with any operand value is that instruction; the bits it ignores make no difference; only an
unassigned opcode makes a bad word. -/
def Obligations.EveryOperandValueDecodes : Prop :=
  (∀ (m : OpcodeMap) (o : Op) (a : Addr), m.WellFormed → decodeWord m (m o ++ a) = .ok (o.withOperand a))
  ∧ (∀ (o : Op) (a b : Addr), o.kind = .absent → o.withOperand a = o.withOperand b)
  ∧ (∀ (o : Op) (a b : Addr), o.kind = .immediate → a.extractLsb' 0 8 = b.extractLsb' 0 8 →
      o.withOperand a = o.withOperand b)
  ∧ (∀ (m : OpcodeMap) (w : Word), (∀ i, decodeWord m w ≠ .ok i) ↔ Unassigned m (w.extractLsb' 11 5))

/-- R83, R86: a map of 24 distinct codes leaves 8 of the 32 codes unassigned; the default map is one, and its unassigned codes
are the eight that R86 lists. -/
def Obligations.EightCodesAreUnassigned : Prop :=
  defaultOpcodeMap.WellFormed
  ∧ (∀ code : Opcode, Unassigned defaultOpcodeMap code ↔
      code ∈ [0x00#5, 0x08#5, 0x0A#5, 0x0C#5, 0x0D#5, 0x0F#5, 0x10#5, 0x1C#5])
  ∧ Op.all.length = 24
  ∧ ∀ m : OpcodeMap, m.WellFormed →
      ((List.range 32).filter (fun k => (decodeOp m (BitVec.ofNat 5 k)).isNone)).length = 8

/-- R88: an operand is accepted, and a word assembled, exactly when R82 gives the instruction one and it is in range; every
other operand is refused as such; and what is assembled decodes to that instruction. -/
def Obligations.AssembledWordIsTheInstruction : Prop :=
  ∀ (m : OpcodeMap) (o : Op) (x : Option Nat), m.WellFormed →
    (∀ w, assembleInstr m o x = .ok w →
      decodeWord m w = .ok (o.withOperand (BitVec.ofNat 11 (x.getD 0)))
      ∧ w.toNat = (m o).toNat * 2048 + x.getD 0)
    ∧ ((∃ w, assembleInstr m o x = .ok w) ↔
        ((o.kind = .address ∧ ∃ n, x = some n ∧ n ≤ 0x7FF)
          ∨ (o.kind = .immediate ∧ ∃ n, x = some n ∧ n ≤ 0xFF)
          ∨ (o.kind = .absent ∧ x = none)))
    ∧ (assembleInstr m o x = .error .operandRefused ↔
        ¬ ((o.kind = .address ∧ ∃ n, x = some n ∧ n ≤ 0x7FF)
          ∨ (o.kind = .immediate ∧ ∃ n, x = some n ∧ n ≤ 0xFF)
          ∨ (o.kind = .absent ∧ x = none)))

/-! Reset, load, the step -/

/-- R41: the reset values, the open parameters at any values. -/
def Obligations.ResetValuesAreTheTables : Prop :=
  ∀ p : ResetParams,
    (State.resetWith p).cu = .fetchHigh ∧ (State.resetWith p).pc = 0x000#12 ∧ (State.resetWith p).acc = 0x0000#16
    ∧ (State.resetWith p).flags = ⟨false, false, false, false⟩
    ∧ (State.resetWith p).mbr = p.mbr0 ∧ (State.resetWith p).iobr = p.iobr0
    ∧ (State.resetWith p).ir = 0x0000#16 ∧ (State.resetWith p).opc = 0#5 ∧ (State.resetWith p).opr = 0x000#11
    ∧ (State.resetWith p).bus = 0x00#8 ∧ (State.resetWith p).addr = 0x000#11
    ∧ (State.resetWith p).iom = false ∧ (State.resetWith p).rw = .read ∧ (State.resetWith p).oe = false
    ∧ (State.resetWith p).result = .running ∧ (State.resetWith p).faultAddr = 0x000#12
    ∧ (State.resetWith p).diag = 0 ∧ (State.resetWith p).icount = 0
    ∧ (State.resetWith p).mem = p.mem0 ∧ (State.resetWith p).iobuf = p.iobuf0

/-- R244: the loader writes the image's bytes and nothing else; a byte the image does not give keeps its value; an address
outside memory is refused, the answer naming such an address of the image. -/
def Obligations.LoaderWritesTheImage : Prop :=
  ∀ (img : Image) (s : State), MemCanonical s →
    (img.inRange = true → img.isMap = true → ∃ t, loadImage img s = .ok t
      ∧ t = { s with mem := t.mem }
      ∧ (∀ a v, (a, v) ∈ img → memRead a t = some v)
      ∧ (∀ a, (∀ v, (a, v) ∉ img) → memRead a t = memRead a s))
    ∧ (img.inRange = false → ∃ a v, (a, v) ∈ img ∧ 0x7FF < a ∧ loadImage img s = .error a)

/-- R102, R103: FETCH_HIGH and FETCH_LOW. -/
def Obligations.FetchStatesAssembleTheWord : Prop :=
  ∀ (c : Config) (s : State), s.result = .running → s.pc.toNat ≤ 0x7FF →
    (s.cu = .fetchHigh → BelowBound c s → cuStep c s = .next { s with
      cu := .fetchLow
      addr := s.pc.setWidth 11, iom := true, rw := .read, oe := true
      bus := s.mem.read s.pc.toNat
      ir := s.mem.read s.pc.toNat ++ 0x00#8
      pc := s.pc + 1#12
      transfers := s.transfers + 1 })
    ∧ (s.cu = .fetchLow → cuStep c s = .next { s with
      cu := .decode
      addr := s.pc.setWidth 11, iom := true, rw := .read, oe := true
      bus := s.mem.read s.pc.toNat
      ir := s.ir ||| (s.mem.read s.pc.toNat).setWidth 16
      pc := s.pc + 1#12
      transfers := s.transfers + 1 })

/-- R104: DECODE. -/
def Obligations.DecodeLatchesTheFields : Prop :=
  ∀ (c : Config) (s : State), s.result = .running → s.cu = .decode →
    cuStep c s = .next { s with
      cu := .execute
      opc := (s.ir >>> 11).setWidth 5
      opr := (s.ir &&& 0x7FF#16).setWidth 11
      icount := s.icount + 1 }

/-- R108, which the spec marks as derived, on R100: the instruction step is the four state steps; where a fatal error comes
earlier, it leaves what they leave. -/
def Obligations.InstructionStepIsTheStateSteps : Prop :=
  ∀ (c : Config) (s : State), s.result = .running → s.cu = .fetchHigh →
    (BelowBound c s → s.pc.toNat ≤ 0x7FE → ∃ s₁ s₂ s₃,
      cuStep c s = .next s₁ ∧ s₁.cu = .fetchLow ∧ cuStep c s₁ = .next s₂ ∧ s₂.cu = .decode
      ∧ cuStep c s₂ = .next s₃ ∧ s₃.cu = .execute ∧ stepWith c s = cuStep c s₃)
    ∧ (BelowBound c s → s.pc.toNat = 0x7FF → ∃ s₁ s₂,
      cuStep c s = .next s₁ ∧ cuStep c s₁ = .next s₂ ∧ s₂.result = .addressFault ∧ stepWith c s = .next s₂)
    ∧ ((¬ BelowBound c s ∨ 0x7FF < s.pc.toNat) → stepWith c s = cuStep c s)

/-- R102-R105, R107: when the bytes at PC decode to an instruction, a step is that instruction run on the fetched state,
and then FETCH_HIGH unless it ended the run. -/
def Obligations.StepRunsTheDecodedInstruction : Prop :=
  (∀ (c : Config) (s : State) (i : Instr), FetchReady c s →
    decodeBytes c.opcodeMap [s.mem.read s.pc.toNat, s.mem.read (s.pc.toNat + 1)] = .ok (i, []) →
    stepWith c s = match exec i (fetched s) with
      | .next t => .next (if t.cu = .terminate ∨ t.result ≠ .running then t else { t with cu := .fetchHigh })
      | .fault r => .fault r
      | .refused r => .refused r)
  ∧ step = stepWith defaultConfig

/-- R106: an unrecognized opcode, in both decode modes; permissive is the default. That the record is appended to a list, with
p computed as PC less 2, is the model's choice (log entry 10). -/
def Obligations.UnrecognizedOpcodeByMode : Prop :=
  (∀ (c : Config) (s : State), s.result = .running → s.cu = .execute → Unassigned c.opcodeMap s.opc →
    (c.decodeMode = .permissive → cuStep c s = .next { s with
      cu := .fetchHigh, diag := s.diag + 1, diagLog := s.diagLog ++ [⟨s.pc - 2#12, s.opc⟩] })
    ∧ (c.decodeMode = .strict → cuStep c s = .next { s with
      result := .invalidOpcode, diag := s.diag + 1 }))
  ∧ defaultConfig.decodeMode = .permissive

/-- R109, which the spec marks as derived: PC after an instruction that completes without a fault. -/
def Obligations.PcAccountingPerInstruction : Prop :=
  ∀ (c : Config) (s t : State), s.cu = .fetchHigh → stepWith c s = .next t → (t.result = .running ∨ t.result = .success) →
    t.pc = match decodeWord c.opcodeMap (wordAt s s.pc.toNat) with
      | .ok i => pcAfter i s.flags (s.pc + 2#12)
      | .error _ => s.pc + 2#12

/-- R110, which the spec marks as derived, on the model's own count (log entry 13): the transfers of an instruction that
completes without a fault. -/
def Obligations.TransfersPerInstruction : Prop :=
  ∀ (c : Config) (s t : State), s.cu = .fetchHigh → stepWith c s = .next t → (t.result = .running ∨ t.result = .success) →
    t.transfers = s.transfers + 2 + match decodeWord c.opcodeMap (wordAt s s.pc.toNat) with
      | .ok i => executeTransfers i
      | .error _ => 0

/-- R225, R100: every instruction may execute at every point; while the run goes on, a step is taken, and none is a fault or
a refusal. -/
def Obligations.EveryRunningStateSteps : Prop :=
  (∀ (i : Instr) (s : State), ∃ t, exec i s = .next t)
  ∧ (∀ (c : Config) (s : State), s.result = .running → s.cu ≠ .terminate →
      (∃ t, cuStep c s = .next t) ∧ (∃ t, stepWith c s = .next t))

/-! Errors and outcomes -/

/-- R101, R212: the fetch range check of both fetch states. That both RESULT and FAULT_ADDR are written is read from R212
beside R101 (log entry 9). -/
def Obligations.FetchPastMemoryRaisesAddressFault : Prop :=
  ∀ (c : Config) (s : State), s.result = .running → 0x7FF < s.pc.toNat →
    ((s.cu = .fetchHigh ∧ BelowBound c s) ∨ s.cu = .fetchLow) →
    cuStep c s = .next { s with result := .addressFault, faultAddr := s.pc }

/-- R218, R219: the host bound is checked first on entry to FETCH_HIGH, and nothing else changes; without a bound no step
reaches `runaway`. -/
def Obligations.HostBoundEndsTheRunFirst : Prop :=
  (∀ (c : Config) (s : State) (n : Nat), s.result = .running → s.cu = .fetchHigh → c.maxInstr = some n → n ≤ s.icount →
    cuStep c s = .next { s with result := .runaway })
  ∧ (∀ (c : Config) (s t : State), c.maxInstr = none → stepWith c s = .next t → t.result ≠ .runaway)

/-- R214: a diagnostic counts, leaves a record of the instruction's PC and OPC, and changes nothing else; the run
goes on. That the record is appended to a list kept oldest first, with p computed as PC less 2, is the model's choice (log
entry 10). -/
def Obligations.DiagnosticIsNonFatal : Prop :=
  (∀ s : State, diagInvalidControlSignal s =
    { s with diag := s.diag + 1, diagLog := s.diagLog ++ [⟨s.pc - 2#12, s.opc⟩] })
  ∧ ∀ (c : Config) (s : State), FetchReady c s → c.decodeMode = .permissive →
    Unassigned c.opcodeMap ((wordAt s s.pc.toNat).extractLsb' 11 5) →
    ∃ t, stepWith c s = .next t
      ∧ t.diag = s.diag + 1
      ∧ t.diagLog = s.diagLog ++ [⟨s.pc, (wordAt s s.pc.toNat).extractLsb' 11 5⟩]
      ∧ t.acc = s.acc ∧ t.flags = s.flags ∧ t.mbr = s.mbr ∧ t.iobr = s.iobr ∧ t.mem = s.mem ∧ t.iobuf = s.iobuf
      ∧ t.result = .running ∧ t.cu = .fetchHigh ∧ t.pc = s.pc + 2#12

/-- R216, R217, R218, and R212, whose closing paragraph the spec marks as derived: each outcome has its one cause. That the
address fault writes FAULT_ADDR beside RESULT is log entry 9. -/
def Obligations.EachOutcomeHasItsCause : Prop :=
  ∀ (c : Config) (s t : State), cuStep c s = .next t →
    (t.result = .success → s.cu = .execute ∧ decodeFields c.opcodeMap s.opc s.opr = some .eop)
    ∧ (t.result = .addressFault → (s.cu = .fetchHigh ∨ s.cu = .fetchLow) ∧ 0x7FF < s.pc.toNat ∧ t.faultAddr = s.pc)
    ∧ (t.result = .runaway → s.cu = .fetchHigh ∧ ∃ n, c.maxInstr = some n ∧ n ≤ s.icount)
    ∧ (t.result = .invalidOpcode → s.cu = .execute ∧ c.decodeMode = .strict ∧ Unassigned c.opcodeMap s.opc
        ∧ t = { s with result := .invalidOpcode, diag := s.diag + 1 })

/-- R220: once RESULT has left `running` no step is enabled and the state is frozen; a fault state is no successful end. -/
def Obligations.EndedRunIsFrozen : Prop :=
  (∀ (c : Config) (s : State), s.result ≠ .running →
    cuStep c s = .fault (.runEnded s.result) ∧ stepWith c s = .fault (.runEnded s.result) ∧ ∀ n, runSteps c n s = s)
  ∧ (∀ s : State, FaultState s → runEnd s ≠ none ∧ runEnd s ≠ some .success)

/-- R221, which the spec marks as derived: what the instruction at which a fatal error arises has changed. That the address
fault writes FAULT_ADDR beside RESULT is log entry 9. -/
def Obligations.FatalErrorsArePrecise : Prop :=
  ∀ (c : Config) (s : State), s.result = .running → s.cu = .fetchHigh → BelowBound c s →
    (s.pc = 0x800#12 → stepWith c s = .next { s with result := .addressFault, faultAddr := 0x800#12 })
    ∧ (s.pc = 0x7FF#12 → stepWith c s = .next { s with
        cu := .fetchLow
        addr := 0x7FF#11, iom := true, rw := .read, oe := true
        bus := s.mem.read 0x7FF
        ir := s.mem.read 0x7FF ++ 0x00#8
        pc := 0x800#12
        transfers := s.transfers + 1
        result := .addressFault, faultAddr := 0x800#12 })
    ∧ (s.pc.toNat ≤ 0x7FE → c.decodeMode = .strict → Unassigned c.opcodeMap ((wordAt s s.pc.toNat).extractLsb' 11 5) →
        stepWith c s = .next { fetched s with
          diag := s.diag + 1
          result := .invalidOpcode })

/-- R222: the final report exists exactly when the run has ended, holds the snapshot's registers and tells the outcomes
apart. -/
def Obligations.FinalReportTellsTheOutcome : Prop :=
  ∀ s : State,
    (finalReport s = none ↔ s.result = .running)
    ∧ (∀ e r, finalReport s = some (e, r) →
      (r.pc = s.pc ∧ r.ir = s.ir ∧ r.opc = s.opc ∧ r.opr = s.opr ∧ r.acc = s.acc
        ∧ r.zf = s.flags.zf ∧ r.cf = s.flags.cf ∧ r.sf = s.flags.sf ∧ r.of = s.flags.of
        ∧ r.mbr = s.mbr ∧ r.iobr = s.iobr ∧ r.bus = s.bus ∧ r.addr = s.addr
        ∧ r.iom = s.iom ∧ r.rw = s.rw ∧ r.oe = s.oe ∧ r.diag = s.diag ∧ r.icount = s.icount)
      ∧ (e = .success ↔ s.result = .success)
      ∧ (e = .addressFault s.faultAddr ↔ s.result = .addressFault)
      ∧ (e = .runaway ↔ s.result = .runaway)
      ∧ (e = .invalidOpcode ↔ s.result = .invalidOpcode))

/-- R228: the trace record of an executed instruction holds the fields as they stand after EXECUTE. Which steps count as an
executed instruction is the model's choice (log entry 11). -/
def Obligations.TraceRecordHoldsTheFields : Prop :=
  ∀ (c : Config) (s t : State), stepWith c s = .next t → (t.result = .running ∨ t.result = .success) →
    stepTrace c s = some ⟨t.pc, t.ir, t.opc, t.opr, t.iom, decide (t.rw = .write), t.oe, t.bus, t.addr, t.mbr, t.iobr, t.acc,
      t.flags.zf, t.flags.cf, t.flags.sf, t.flags.of⟩

/-! Invariants -/

/-- R28, R41: the invariant holds at reset, for canonical initial contents of memory. -/
def Obligations.InvariantHoldsAtReset : Prop :=
  (∀ p : ResetParams, p.mem0.wf = true → Inv (State.resetWith p)) ∧ Inv State.reset

/-- R28, R27, R102, R196, R212, R214, R110: every state step and every instruction step keeps the invariant. -/
def Obligations.EveryStepKeepsTheInvariant : Prop :=
  ∀ (c : Config) (s t : State), Inv s →
    (cuStep c s = .next t → Inv t) ∧ (stepWith c s = .next t → Inv t) ∧ (step s = .next t → Inv t)

/-- R245: the invariant holds at every point of every run: after reset and load, and any number of steps. -/
def Obligations.EveryRunKeepsTheInvariant : Prop :=
  ∀ (c : Config) (p : ResetParams) (img : Image) (s : State) (n : Nat),
    p.mem0.wf = true → boot p img = .ok s → Inv (runSteps c n s)

/-! Memory and the bus -/

/-- R59 and R55, which the spec marks as derived: an address of memory is read back as written, with every other byte unchanged
and the canonical form kept; an address outside memory is refused; no value of ADDR is. -/
def Obligations.MemoryRoundTripAndIsolation : Prop :=
  ∀ (s : State) (a : Nat) (v : Byte), MemCanonical s →
    (a ≤ 0x7FF → ∃ t, memWrite a v s = some t ∧ memRead a t = some v ∧ (∀ b, b ≠ a → memRead b t = memRead b s)
      ∧ t = { s with mem := t.mem } ∧ MemCanonical t)
    ∧ (0x7FF < a → memRead a s = none ∧ memWrite a v s = none)
    ∧ memRead s.addr.toNat s ≠ none ∧ memWrite s.addr.toNat v s ≠ none

/-- Log entry 6: memories in canonical form that read alike everywhere are the same list. The model's representation, no
rule of the spec. -/
def Obligations.CanonicalMemoryIsDetermined : Prop :=
  ∀ m m' : Memory, m.wf = true → m'.wf = true → (∀ a, a ≤ 0x7FF → m.read a = m'.read a) → m = m'

/-- R52, which the spec marks as derived: the address decomposition is a bijection between [0, 2047] and banks, rows and
columns. -/
def Obligations.AddressDecompositionIsBijective : Prop :=
  (∀ a, a ≤ 0x7FF → bankOf a < 2 ∧ rowOf a < 32 ∧ columnOf a < 32 ∧ composeAddr (bankOf a) (rowOf a) (columnOf a) = a
    ∧ (bankOf a = 0 ↔ a ≤ 0x3FF))
  ∧ (∀ b r k, b < 2 → r < 32 → k < 32 → composeAddr b r k ≤ 0x7FF ∧ bankOf (composeAddr b r k) = b
    ∧ rowOf (composeAddr b r k) = r ∧ columnOf (composeAddr b r k) = k)

/-- R57, R56, R53: a byte read is the reconstruction from the planes. That the planes are a view of the stored bytes is the
model's (log entry 6). -/
def Obligations.ReadIsTheReconstructionFromPlanes : Prop :=
  ∀ (s : State) (a : Nat), a ≤ 0x7FF → memRead a s = some (readPlanes (planeWord s.mem) a)

/-- R58: a byte write changes one bit in each of the eight planes of the addressed bank, and nothing else of any plane. That
the planes are a view of the stored bytes is the model's (log entry 6). -/
def Obligations.WriteChangesOneBitPerPlane : Prop :=
  ∀ (s t : State) (a : Nat) (v : Byte), MemCanonical s → memWrite a v s = some t →
    ∀ b k r, b < 2 → k < 8 → r < 32 → planeWord t.mem b k r = writtenPlane (planeWord s.mem) a v b k r

/-- R63, R64: the bus transfer, case by case. -/
def Obligations.TransferByTheControlLines : Prop :=
  ∀ s : State,
    (s.oe = false → transfer s = s)
    ∧ (s.oe = true → s.iom = true → s.rw = .read →
        transfer s = { s with bus := s.mem.read s.addr.toNat, transfers := s.transfers + 1 })
    ∧ (s.oe = true → s.iom = true → s.rw = .write →
        transfer s = { s with mem := s.mem.write s.addr.toNat s.bus, transfers := s.transfers + 1 })
    ∧ (s.oe = true → s.iom = false → s.rw = .read →
        transfer s = { s with bus := ioRead s.addr s, transfers := s.transfers + 1 })
    ∧ (s.oe = true → s.iom = false → s.rw = .write →
        transfer s = { s with iobuf := (ioWrite s.addr s.bus s).iobuf, transfers := s.transfers + 1 })

/-- R61, R62: the I/O buffer is indexed by ADDR[4:0]; a write changes only the addressed byte. -/
def Obligations.IoBufferUsesTheLowFiveBits : Prop :=
  ∀ (s : State) (a b : Addr) (v : Byte),
    (∀ h : a.toNat % 32 < 32, ioRead a s = s.iobuf[a.toNat % 32]'h)
    ∧ ioRead b (ioWrite a v s) = (if b.toNat % 32 = a.toNat % 32 then v else ioRead b s)
    ∧ ioWrite a v s = { s with iobuf := (ioWrite a v s).iobuf }

/-- R71, which the spec marks as derived: WM keeps the latched word of the instruction now executing; the byte it stores is
what both fetch states read at its address from the state it leaves; and after the instruction step that runs WM, the next
fetch from any address reads the stored byte there and the old byte elsewhere. -/
def Obligations.StoreIsSeenByTheNextFetch : Prop :=
  (∀ (c : Config) (s : State) (a : Addr), MemCanonical s →
    ∃ t, exec (.wm a) s = .next t ∧ t.ir = s.ir ∧ t.opc = s.opc ∧ t.opr = s.opr
      ∧ (s.result = .running → BelowBound c s →
          ∃ w, cuStep c { t with cu := .fetchHigh, pc := a.setWidth 12 } = .next w ∧ w.bus = s.mbr)
      ∧ (s.result = .running →
          ∃ w, cuStep c { t with cu := .fetchLow, pc := a.setWidth 12 } = .next w ∧ w.bus = s.mbr))
  ∧ (∀ (c : Config) (s : State) (a : Addr), MemCanonical s → FetchReady c s →
    decodeWord c.opcodeMap (wordAt s s.pc.toNat) = .ok (.wm a) →
    ∃ t, stepWith c s = .next t ∧ t.result = .running ∧ t.cu = .fetchHigh ∧ t.pc = s.pc + 2#12
      ∧ ∀ b : Addr,
        (BelowBound c t → ∃ w, cuStep c { t with pc := b.setWidth 12 } = .next w
          ∧ w.bus = if b = a then s.mbr else s.mem.read b.toNat)
        ∧ ∃ w, cuStep c { t with cu := .fetchLow, pc := b.setWidth 12 } = .next w
          ∧ w.bus = if b = a then s.mbr else s.mem.read b.toNat)

/-! The memory-access family -/

/-- R120, R122: WM. -/
def Obligations.WmStoresMbr : Prop :=
  ∀ (s : State) (a : Addr), MemCanonical s →
    ∃ t, exec (.wm a) s = .next t
      ∧ (∀ b, memRead b t = if b = a.toNat then some s.mbr else memRead b s)
      ∧ t = { s with
          mem := t.mem, bus := s.mbr, addr := a, iom := true, rw := .write, oe := true, transfers := s.transfers + 1 }

/-- R121, R122: RM. -/
def Obligations.RmLoadsMbr : Prop :=
  ∀ (s : State) (a : Addr),
    ∃ v, memRead a.toNat s = some v
      ∧ exec (.rm a) s = .next { s with
          mbr := v, bus := v, addr := a, iom := true, rw := .read, oe := true, transfers := s.transfers + 1 }

/-- R123, R124, R122: RIO and WIO. -/
def Obligations.RioAndWioMoveIobr : Prop :=
  ∀ (s : State) (a : Addr),
    (∀ h : a.toNat % 32 < 32, exec (.rio a) s = .next { s with
        iobr := s.iobuf[a.toNat % 32]'h, bus := s.iobuf[a.toNat % 32]'h
        addr := a, iom := false, rw := .read, oe := true, transfers := s.transfers + 1 })
    ∧ (∃ t, exec (.wio a) s = .next t
        ∧ (∀ b : Addr, ioRead b t = if b.toNat % 32 = a.toNat % 32 then s.iobr else ioRead b s)
        ∧ t = { s with
            iobuf := t.iobuf, bus := s.iobr, addr := a, iom := false, rw := .write, oe := true
            transfers := s.transfers + 1 })

/-- R125, R126: WB and WIB take the low byte of the operand field, whatever bits 10:8 hold, and make no transfer. -/
def Obligations.WbAndWibTakeTheLowByte : Prop :=
  ∀ (s : State) (operand : Addr),
    exec (Op.withOperand operand .wb) s = .next { s with mbr := operand.setWidth 8 }
    ∧ exec (Op.withOperand operand .wib) s = .next { s with iobr := operand.setWidth 8 }

/-- R127: SWAP; two in a row restore both registers. -/
def Obligations.SwapExchangesTheRegisters : Prop :=
  ∀ s : State,
    exec .swap s = .next { s with mbr := s.iobr, iobr := s.mbr }
    ∧ exec .swap { s with mbr := s.iobr, iobr := s.mbr } = .next s

/-! The ALU family -/

/-- R142: two's complement at 8 bits is negation mod 2^8 and its own inverse. -/
def Obligations.TwosComplementIsNegation : Prop :=
  ∀ x : Byte, (twosComplement8 x).toNat = (256 - x.toNat) % 256 ∧ twosComplement8 (twosComplement8 x) = x

/-- R160, R143: ADD. -/
def Obligations.AddWritesTheSum : Prop :=
  ∀ s : State, ∃ t, exec .add s = .next t
    ∧ t = { s with bus := s.mbr, acc := t.acc, flags := t.flags }
    ∧ t.acc.toNat = (s.acc.toNat % 256 + s.mbr.toNat) % 256
    ∧ (t.flags.zf = true ↔ (s.acc.toNat % 256 + s.mbr.toNat) % 256 = 0)
    ∧ (t.flags.sf = true ↔ 128 ≤ (s.acc.toNat % 256 + s.mbr.toNat) % 256)
    ∧ (t.flags.cf = true ↔ 256 ≤ s.acc.toNat % 256 + s.mbr.toNat)
    ∧ (t.flags.of = true ↔ s.acc.getLsbD 7 = s.mbr.getLsbD 7 ∧ t.acc.getLsbD 7 ≠ s.acc.getLsbD 7)
    ∧ (t.flags.of = true ↔ OutsideByte ((s.acc.setWidth 8).toInt + s.mbr.toInt))

/-- R161, R143: SUB, the addition of the two's complement; CF is "no borrow" unless b = 0, and OF is the overflow of that
addition, which for b = 0x80 adds -128. -/
def Obligations.SubWritesTheDifference : Prop :=
  ∀ s : State, ∃ t, exec .sub s = .next t
    ∧ t = { s with bus := s.mbr, acc := t.acc, flags := t.flags }
    ∧ t.acc.toNat = (s.acc.toNat % 256 + (256 - s.mbr.toNat)) % 256
    ∧ (t.flags.zf = true ↔ s.acc.toNat % 256 = s.mbr.toNat)
    ∧ (t.flags.sf = true ↔ t.acc.getLsbD 7 = true)
    ∧ (t.flags.cf = true ↔ s.mbr.toNat ≠ 0 ∧ s.mbr.toNat ≤ s.acc.toNat % 256)
    ∧ (t.flags.of = true ↔
        OutsideByte ((s.acc.setWidth 8).toInt + (if s.mbr = 0x80#8 then -128 else -s.mbr.toInt)))

/-- R163-R166, R144: AND, OR, XOR and NOT. -/
def Obligations.LogicOperationsWriteAccAndFlags : Prop :=
  ∀ s : State,
    exec .and s = .next { s with
      bus := s.mbr, acc := (s.acc.setWidth 8 &&& s.mbr).setWidth 16
      flags := ⟨decide (s.acc.setWidth 8 &&& s.mbr = 0#8), false, (s.acc.setWidth 8 &&& s.mbr).msb, false⟩ }
    ∧ exec .or s = .next { s with
      bus := s.mbr, acc := (s.acc.setWidth 8 ||| s.mbr).setWidth 16
      flags := ⟨decide (s.acc.setWidth 8 ||| s.mbr = 0#8), false, (s.acc.setWidth 8 ||| s.mbr).msb, false⟩ }
    ∧ exec .xor s = .next { s with
      bus := s.mbr, acc := (s.acc.setWidth 8 ^^^ s.mbr).setWidth 16
      flags := ⟨decide (s.acc.setWidth 8 ^^^ s.mbr = 0#8), false, (s.acc.setWidth 8 ^^^ s.mbr).msb, false⟩ }
    ∧ exec .not s = .next { s with
      bus := s.mbr, acc := (~~~(s.acc.setWidth 8)).setWidth 16
      flags := ⟨decide (~~~(s.acc.setWidth 8) = 0#8), false, (~~~(s.acc.setWidth 8)).msb, false⟩ }

/-- R167, R168: SHL and SHR by one, logical, on ACC[7:0]. -/
def Obligations.ShiftsMoveByOneBit : Prop :=
  ∀ s : State,
    (∃ t, exec .shl s = .next t
      ∧ t = { s with bus := s.mbr, acc := t.acc, flags := t.flags }
      ∧ t.acc.toNat = 2 * (s.acc.toNat % 256) % 256
      ∧ (t.flags.cf = true ↔ 128 ≤ s.acc.toNat % 256)
      ∧ (t.flags.zf = true ↔ t.acc.toNat = 0) ∧ (t.flags.sf = true ↔ 128 ≤ t.acc.toNat) ∧ t.flags.of = false)
    ∧ (∃ t, exec .shr s = .next t
      ∧ t = { s with bus := s.mbr, acc := t.acc, flags := t.flags }
      ∧ t.acc.toNat = s.acc.toNat % 256 / 2
      ∧ (t.flags.cf = true ↔ s.acc.toNat % 2 = 1)
      ∧ (t.flags.zf = true ↔ t.acc.toNat = 0) ∧ t.flags.sf = false ∧ t.flags.of = false)

/-- R169, R170, R141: WACC and RACC; no flag changes, and RACC is the one result copied back to MBR. -/
def Obligations.WaccAndRaccMoveTheLowByte : Prop :=
  ∀ s : State,
    exec .wacc s = .next { s with bus := s.mbr, acc := s.mbr.setWidth 16 }
    ∧ exec .racc s = .next { s with bus := s.acc.setWidth 8, mbr := s.acc.setWidth 8 }

/-- R150: Booth's algorithm: the recoded add, then the arithmetic shift right of the 17-bit {A, Q, Q₋₁}, eight times. -/
def Obligations.BoothStepIsAddThenArithmeticShift : Prop :=
  (∀ (m : Byte) (r : BoothRegs),
    ((boothStep m r).a ++ (boothStep m r).q ++ BitVec.ofBool (boothStep m r).qm1 : BitVec 17) =
      ((if r.q.getLsbD 0 = true ∧ r.qm1 = false then r.a - m
        else if r.q.getLsbD 0 = false ∧ r.qm1 = true then r.a + m else r.a) ++ r.q ++ BitVec.ofBool r.qm1 :
          BitVec 17).sshiftRight 1)
  ∧ (∀ (m q : Byte), booth m q =
      (Nat.iterate (boothStep m) 8 ⟨0#8, q, false⟩).a ++ (Nat.iterate (boothStep m) 8 ⟨0#8, q, false⟩).q)

/-- R151, which the spec marks as derived: what Booth computes: the exact signed product, except for M = 0x80 with Q other than
0, where it is the negation of it. -/
def Obligations.BoothProductIsExactButForOneMultiplicand : Prop :=
  ∀ m q : Byte,
    ((m ≠ 0x80#8 ∨ q = 0x00#8) → booth m q = BitVec.ofInt 16 (m.toInt * q.toInt))
    ∧ (m = 0x80#8 → q ≠ 0x00#8 →
        booth m q = BitVec.ofInt 16 (128 * q.toInt) ∧ booth m q ≠ BitVec.ofInt 16 (m.toInt * q.toInt))

/-- R162, R152: MUL. -/
def Obligations.MulWritesTheBoothProduct : Prop :=
  ∀ s : State, ∃ f, exec .mul s = .next { s with bus := s.mbr, acc := booth (s.acc.setWidth 8) s.mbr, flags := f }
    ∧ (f.zf = true ↔ booth (s.acc.setWidth 8) s.mbr = 0x0000#16)
    ∧ (f.sf = true ↔ (booth (s.acc.setWidth 8) s.mbr).toInt < 0)
    ∧ (f.cf = true ↔ OutsideByte (booth (s.acc.setWidth 8) s.mbr).toInt)
    ∧ f.of = f.cf

/-- R171, and R111, which the spec marks as derived: an ALU op outside the 11 is a diagnostic and changes no ACC, flag or BUS;
the control unit never asks for one. That the record is appended to a list, with p computed as PC less 2, is the model's
choice (log entry 10). -/
def Obligations.UnknownAluOpIsADiagnostic : Prop :=
  (∀ (op : Op) (s : State),
    op ∉ [Op.add, .sub, .mul, .and, .or, .xor, .not, .shl, .shr, .wacc, .racc] →
    aluExecute op s = { s with diag := s.diag + 1, diagLog := s.diagLog ++ [⟨s.pc - 2#12, s.opc⟩] })
  ∧ (∀ (i : Instr) (s t : State), exec i s = .next t → t.diag = s.diag ∧ t.diagLog = s.diagLog)

/-! Control flow -/

/-- R190-R195: the branches, on the flags as they stand. -/
def Obligations.BranchesTestTheFlags : Prop :=
  ∀ (s : State) (a : Addr),
    exec (.br a) s = .next { s with pc := a.setWidth 12 }
    ∧ exec (.bre a) s = .next (if s.flags.zf = true then { s with pc := a.setWidth 12 } else s)
    ∧ exec (.brne a) s = .next (if s.flags.zf = false then { s with pc := a.setWidth 12 } else s)
    ∧ exec (.brlt a) s = .next (if s.flags.sf = true then { s with pc := a.setWidth 12 } else s)
    ∧ exec (.brgt a) s = .next (if s.flags.sf = false ∧ s.flags.zf = false then { s with pc := a.setWidth 12 } else s)

/-- R192-R195 with R161: after SUB, the branches compare ACC[7:0] with MBR: equality always, signed order where MBR is not
0x80 and the subtraction did not overflow. -/
def Obligations.BranchesAfterSubCompare : Prop :=
  ∀ (s t : State) (a : Addr), exec .sub s = .next t →
    (exec (.bre a) t = .next (if s.acc.setWidth 8 = s.mbr then { t with pc := a.setWidth 12 } else t))
    ∧ (exec (.brne a) t = .next (if s.acc.setWidth 8 ≠ s.mbr then { t with pc := a.setWidth 12 } else t))
    ∧ (s.mbr ≠ 0x80#8 → t.flags.of = false →
        exec (.brlt a) t = .next (if (s.acc.setWidth 8).toInt < s.mbr.toInt then { t with pc := a.setWidth 12 } else t)
        ∧ exec (.brgt a) t =
            .next (if s.mbr.toInt < (s.acc.setWidth 8).toInt then { t with pc := a.setWidth 12 } else t))

/-- R196: EOP ends the run with success and leaves PC at p + 2; no step follows; no other instruction reaches `success`. -/
def Obligations.EopEndsTheRun : Prop :=
  (∀ s : State, exec .eop s = .next { s with result := .success, cu := .terminate })
  ∧ (∀ (c : Config) (s : State), FetchReady c s →
      decodeWord c.opcodeMap (wordAt s s.pc.toNat) = .ok .eop →
      stepWith c s = .next { fetched s with result := .success, cu := .terminate }
      ∧ stepWith c { fetched s with result := .success, cu := .terminate } = .fault (.runEnded .success))
  ∧ (∀ (i : Instr) (s t : State), exec i s = .next t → s.result ≠ .success → t.result = .success → i = .eop)

/-! Rules over all instructions -/

/-- R20, R21, R23, R24: only the ALU operations change ACC, and no instruction outside the ALU family reads it; the flags keep
their values but for the nine flag-writing operations. -/
def Obligations.AccAndFlagsHaveTheirWriters : Prop :=
  (∀ (i : Instr) (s t : State), exec i s = .next t →
    (i.op ∉ accWriters → t.acc = s.acc) ∧ (i.op ∉ flagWriters → t.flags = s.flags))
  ∧ (∀ (i : Instr) (s t : State) (v : Word), exec i s = .next t → i.op ∉ accWriters → i.op ≠ .racc →
      exec i { s with acc := v } = .next { t with acc := v })
  ∧ (∀ (s t : State) (v : Word), exec .wacc s = .next t → exec .wacc { s with acc := v } = .next t)

/-- R25, R30, R32, R50: who writes MBR, IOBR, ADDR, the control lines, memory and the I/O buffer; what no instruction
writes. -/
def Obligations.RegistersHaveTheirWriters : Prop :=
  ∀ (i : Instr) (s t : State), exec i s = .next t →
    (i.op ∉ [Op.rm, .wb, .swap, .racc] → t.mbr = s.mbr)
    ∧ (i.op ∉ [Op.rio, .wib, .swap] → t.iobr = s.iobr)
    ∧ (i.op ∉ [Op.wm, .rm, .rio, .wio] → t.addr = s.addr ∧ t.iom = s.iom ∧ t.rw = s.rw ∧ t.oe = s.oe
        ∧ t.transfers = s.transfers)
    ∧ (i.op ≠ .wm → t.mem = s.mem)
    ∧ (i.op ≠ .wio → t.iobuf = s.iobuf)
    ∧ (i.op ∉ [Op.br, .bre, .brne, .brlt, .brgt] → t.pc = s.pc)
    ∧ (i.op ≠ .eop → t.result = s.result ∧ t.cu = s.cu)
    ∧ t.ir = s.ir ∧ t.opc = s.opc ∧ t.opr = s.opr ∧ t.icount = s.icount ∧ t.faultAddr = s.faultAddr

/-- R31, R41: no instruction depends on what BUS, ADDR, the control lines, IR or the latches OPC and OPR held before it was
fetched. -/
def Obligations.LatchesAreWrittenBeforeTheyAreRead : Prop :=
  ∀ (c : Config) (s : State) (bus : Byte) (addr : Addr) (iom oe : Bool) (rw : Direction) (ir : Word) (opc : Opcode) (opr : Addr),
    FetchReady c s →
    stepWith c { s with bus := bus, addr := addr, iom := iom, oe := oe, rw := rw, ir := ir, opc := opc, opr := opr }
      = stepWith c s

/-- R170's closing sentence, which the spec marks as derived: no instruction reads ACC[15:8]: runs from states that differ only
there differ only there. -/
def Obligations.AccHighByteIsUnobservable : Prop :=
  ∀ (c : Config) (n : Nat) (s s' : State), SameButAccHigh s s' → SameButAccHigh (runSteps c n s) (runSteps c n s')

/-- R23, which the spec marks as derived: no instruction reads CF or OF: runs from states that differ only there differ only
there. -/
def Obligations.CarryAndOverflowSteerNothing : Prop :=
  ∀ (c : Config) (n : Nat) (s s' : State), SameButCarryOverflow s s' →
    SameButCarryOverflow (runSteps c n s) (runSteps c n s')

/-- R33-R35, R226: no instruction reads DIAG, ICOUNT or FAULT_ADDR: without a host bound, runs from states that differ only in
the bookkeeping differ only there. -/
def Obligations.BookkeepingSteersNothing : Prop :=
  ∀ (c : Config) (n : Nat) (s s' : State), c.maxInstr = none → SameButBookkeeping s s' →
    SameButBookkeeping (runSteps c n s) (runSteps c n s')
end

