-- ==== Sys2Proof/Laws/BitChip.lean ====
section
/-! SUPPORT. The columns of a plane word are the plane's bits. -/

namespace Sys2Proof.Machine

/-- Column c of the first n columns of a row is the plane's bit (20_memory.md R54). -/
theorem planeColumns_getLsbD (m : Memory) (b k r n c : Nat) :
    (planeColumns m b k r n).getLsbD c = (decide (c < n) && planeBit m b k r c) := by
  induction n with
  | zero => simp [planeColumns]
  | succ n ih =>
    rw [planeColumns, BitVec.getLsbD_cons, ih]
    by_cases h : c = n
    · subst h; simp
    · have : decide (c < n + 1) = decide (c < n) := by
        rw [decide_eq_decide]; omega
      rw [if_neg h, this]

/-- Bit c of PLANES[b][k][r] is bit 7-k of the byte at bank b, row r, column c (20_memory.md R53, R54). -/
theorem planeWord_getLsbD (m : Memory) (b k r c : Nat) :
    (planeWord m b k r).getLsbD c = (decide (c < 32) && planeBit m b k r c) :=
  planeColumns_getLsbD m b k r 32 c

end Sys2Proof.Machine
end

