-- ==== Sys2Proof/Laws/State.lean ====
section
/-! SUPPORT. Each field after each plain update of State, so that no later proof unfolds a record update. -/

namespace Sys2Proof.Machine

variable (s : State)

@[simp] theorem State.setCu_cu (c : CuState) : (s.setCu c).cu = c := rfl
@[simp] theorem State.setCu_pc (c : CuState) : (s.setCu c).pc = s.pc := rfl
@[simp] theorem State.setCu_ir (c : CuState) : (s.setCu c).ir = s.ir := rfl
@[simp] theorem State.setCu_opc (c : CuState) : (s.setCu c).opc = s.opc := rfl
@[simp] theorem State.setCu_opr (c : CuState) : (s.setCu c).opr = s.opr := rfl
@[simp] theorem State.setCu_mbr (c : CuState) : (s.setCu c).mbr = s.mbr := rfl
@[simp] theorem State.setCu_iobr (c : CuState) : (s.setCu c).iobr = s.iobr := rfl
@[simp] theorem State.setCu_acc (c : CuState) : (s.setCu c).acc = s.acc := rfl
@[simp] theorem State.setCu_flags (c : CuState) : (s.setCu c).flags = s.flags := rfl
@[simp] theorem State.setCu_bus (c : CuState) : (s.setCu c).bus = s.bus := rfl
@[simp] theorem State.setCu_addr (c : CuState) : (s.setCu c).addr = s.addr := rfl
@[simp] theorem State.setCu_iom (c : CuState) : (s.setCu c).iom = s.iom := rfl
@[simp] theorem State.setCu_rw (c : CuState) : (s.setCu c).rw = s.rw := rfl
@[simp] theorem State.setCu_oe (c : CuState) : (s.setCu c).oe = s.oe := rfl
@[simp] theorem State.setCu_mem (c : CuState) : (s.setCu c).mem = s.mem := rfl
@[simp] theorem State.setCu_iobuf (c : CuState) : (s.setCu c).iobuf = s.iobuf := rfl
@[simp] theorem State.setCu_result (c : CuState) : (s.setCu c).result = s.result := rfl
@[simp] theorem State.setCu_faultAddr (c : CuState) : (s.setCu c).faultAddr = s.faultAddr := rfl
@[simp] theorem State.setCu_diag (c : CuState) : (s.setCu c).diag = s.diag := rfl
@[simp] theorem State.setCu_diagLog (c : CuState) : (s.setCu c).diagLog = s.diagLog := rfl
@[simp] theorem State.setCu_icount (c : CuState) : (s.setCu c).icount = s.icount := rfl
@[simp] theorem State.setCu_transfers (c : CuState) : (s.setCu c).transfers = s.transfers := rfl

@[simp] theorem State.setPc_cu (p : Pc) : (s.setPc p).cu = s.cu := rfl
@[simp] theorem State.setPc_pc (p : Pc) : (s.setPc p).pc = p := rfl
@[simp] theorem State.setPc_ir (p : Pc) : (s.setPc p).ir = s.ir := rfl
@[simp] theorem State.setPc_opc (p : Pc) : (s.setPc p).opc = s.opc := rfl
@[simp] theorem State.setPc_opr (p : Pc) : (s.setPc p).opr = s.opr := rfl
@[simp] theorem State.setPc_mbr (p : Pc) : (s.setPc p).mbr = s.mbr := rfl
@[simp] theorem State.setPc_iobr (p : Pc) : (s.setPc p).iobr = s.iobr := rfl
@[simp] theorem State.setPc_acc (p : Pc) : (s.setPc p).acc = s.acc := rfl
@[simp] theorem State.setPc_flags (p : Pc) : (s.setPc p).flags = s.flags := rfl
@[simp] theorem State.setPc_bus (p : Pc) : (s.setPc p).bus = s.bus := rfl
@[simp] theorem State.setPc_addr (p : Pc) : (s.setPc p).addr = s.addr := rfl
@[simp] theorem State.setPc_iom (p : Pc) : (s.setPc p).iom = s.iom := rfl
@[simp] theorem State.setPc_rw (p : Pc) : (s.setPc p).rw = s.rw := rfl
@[simp] theorem State.setPc_oe (p : Pc) : (s.setPc p).oe = s.oe := rfl
@[simp] theorem State.setPc_mem (p : Pc) : (s.setPc p).mem = s.mem := rfl
@[simp] theorem State.setPc_iobuf (p : Pc) : (s.setPc p).iobuf = s.iobuf := rfl
@[simp] theorem State.setPc_result (p : Pc) : (s.setPc p).result = s.result := rfl
@[simp] theorem State.setPc_faultAddr (p : Pc) : (s.setPc p).faultAddr = s.faultAddr := rfl
@[simp] theorem State.setPc_diag (p : Pc) : (s.setPc p).diag = s.diag := rfl
@[simp] theorem State.setPc_diagLog (p : Pc) : (s.setPc p).diagLog = s.diagLog := rfl
@[simp] theorem State.setPc_icount (p : Pc) : (s.setPc p).icount = s.icount := rfl
@[simp] theorem State.setPc_transfers (p : Pc) : (s.setPc p).transfers = s.transfers := rfl

@[simp] theorem State.setIr_cu (w : Word) : (s.setIr w).cu = s.cu := rfl
@[simp] theorem State.setIr_pc (w : Word) : (s.setIr w).pc = s.pc := rfl
@[simp] theorem State.setIr_ir (w : Word) : (s.setIr w).ir = w := rfl
@[simp] theorem State.setIr_opc (w : Word) : (s.setIr w).opc = s.opc := rfl
@[simp] theorem State.setIr_opr (w : Word) : (s.setIr w).opr = s.opr := rfl
@[simp] theorem State.setIr_mbr (w : Word) : (s.setIr w).mbr = s.mbr := rfl
@[simp] theorem State.setIr_iobr (w : Word) : (s.setIr w).iobr = s.iobr := rfl
@[simp] theorem State.setIr_acc (w : Word) : (s.setIr w).acc = s.acc := rfl
@[simp] theorem State.setIr_flags (w : Word) : (s.setIr w).flags = s.flags := rfl
@[simp] theorem State.setIr_bus (w : Word) : (s.setIr w).bus = s.bus := rfl
@[simp] theorem State.setIr_addr (w : Word) : (s.setIr w).addr = s.addr := rfl
@[simp] theorem State.setIr_iom (w : Word) : (s.setIr w).iom = s.iom := rfl
@[simp] theorem State.setIr_rw (w : Word) : (s.setIr w).rw = s.rw := rfl
@[simp] theorem State.setIr_oe (w : Word) : (s.setIr w).oe = s.oe := rfl
@[simp] theorem State.setIr_mem (w : Word) : (s.setIr w).mem = s.mem := rfl
@[simp] theorem State.setIr_iobuf (w : Word) : (s.setIr w).iobuf = s.iobuf := rfl
@[simp] theorem State.setIr_result (w : Word) : (s.setIr w).result = s.result := rfl
@[simp] theorem State.setIr_faultAddr (w : Word) : (s.setIr w).faultAddr = s.faultAddr := rfl
@[simp] theorem State.setIr_diag (w : Word) : (s.setIr w).diag = s.diag := rfl
@[simp] theorem State.setIr_diagLog (w : Word) : (s.setIr w).diagLog = s.diagLog := rfl
@[simp] theorem State.setIr_icount (w : Word) : (s.setIr w).icount = s.icount := rfl
@[simp] theorem State.setIr_transfers (w : Word) : (s.setIr w).transfers = s.transfers := rfl

@[simp] theorem State.setLatches_cu (o : Opcode) (a : Addr) : (s.setLatches o a).cu = s.cu := rfl
@[simp] theorem State.setLatches_pc (o : Opcode) (a : Addr) : (s.setLatches o a).pc = s.pc := rfl
@[simp] theorem State.setLatches_ir (o : Opcode) (a : Addr) : (s.setLatches o a).ir = s.ir := rfl
@[simp] theorem State.setLatches_opc (o : Opcode) (a : Addr) : (s.setLatches o a).opc = o := rfl
@[simp] theorem State.setLatches_opr (o : Opcode) (a : Addr) : (s.setLatches o a).opr = a := rfl
@[simp] theorem State.setLatches_mbr (o : Opcode) (a : Addr) : (s.setLatches o a).mbr = s.mbr := rfl
@[simp] theorem State.setLatches_iobr (o : Opcode) (a : Addr) : (s.setLatches o a).iobr = s.iobr := rfl
@[simp] theorem State.setLatches_acc (o : Opcode) (a : Addr) : (s.setLatches o a).acc = s.acc := rfl
@[simp] theorem State.setLatches_flags (o : Opcode) (a : Addr) : (s.setLatches o a).flags = s.flags := rfl
@[simp] theorem State.setLatches_bus (o : Opcode) (a : Addr) : (s.setLatches o a).bus = s.bus := rfl
@[simp] theorem State.setLatches_addr (o : Opcode) (a : Addr) : (s.setLatches o a).addr = s.addr := rfl
@[simp] theorem State.setLatches_iom (o : Opcode) (a : Addr) : (s.setLatches o a).iom = s.iom := rfl
@[simp] theorem State.setLatches_rw (o : Opcode) (a : Addr) : (s.setLatches o a).rw = s.rw := rfl
@[simp] theorem State.setLatches_oe (o : Opcode) (a : Addr) : (s.setLatches o a).oe = s.oe := rfl
@[simp] theorem State.setLatches_mem (o : Opcode) (a : Addr) : (s.setLatches o a).mem = s.mem := rfl
@[simp] theorem State.setLatches_iobuf (o : Opcode) (a : Addr) : (s.setLatches o a).iobuf = s.iobuf := rfl
@[simp] theorem State.setLatches_result (o : Opcode) (a : Addr) : (s.setLatches o a).result = s.result := rfl
@[simp] theorem State.setLatches_faultAddr (o : Opcode) (a : Addr) : (s.setLatches o a).faultAddr = s.faultAddr := rfl
@[simp] theorem State.setLatches_diag (o : Opcode) (a : Addr) : (s.setLatches o a).diag = s.diag := rfl
@[simp] theorem State.setLatches_diagLog (o : Opcode) (a : Addr) : (s.setLatches o a).diagLog = s.diagLog := rfl
@[simp] theorem State.setLatches_icount (o : Opcode) (a : Addr) : (s.setLatches o a).icount = s.icount := rfl
@[simp] theorem State.setLatches_transfers (o : Opcode) (a : Addr) : (s.setLatches o a).transfers = s.transfers := rfl

@[simp] theorem State.setMbr_cu (v : Byte) : (s.setMbr v).cu = s.cu := rfl
@[simp] theorem State.setMbr_pc (v : Byte) : (s.setMbr v).pc = s.pc := rfl
@[simp] theorem State.setMbr_ir (v : Byte) : (s.setMbr v).ir = s.ir := rfl
@[simp] theorem State.setMbr_opc (v : Byte) : (s.setMbr v).opc = s.opc := rfl
@[simp] theorem State.setMbr_opr (v : Byte) : (s.setMbr v).opr = s.opr := rfl
@[simp] theorem State.setMbr_mbr (v : Byte) : (s.setMbr v).mbr = v := rfl
@[simp] theorem State.setMbr_iobr (v : Byte) : (s.setMbr v).iobr = s.iobr := rfl
@[simp] theorem State.setMbr_acc (v : Byte) : (s.setMbr v).acc = s.acc := rfl
@[simp] theorem State.setMbr_flags (v : Byte) : (s.setMbr v).flags = s.flags := rfl
@[simp] theorem State.setMbr_bus (v : Byte) : (s.setMbr v).bus = s.bus := rfl
@[simp] theorem State.setMbr_addr (v : Byte) : (s.setMbr v).addr = s.addr := rfl
@[simp] theorem State.setMbr_iom (v : Byte) : (s.setMbr v).iom = s.iom := rfl
@[simp] theorem State.setMbr_rw (v : Byte) : (s.setMbr v).rw = s.rw := rfl
@[simp] theorem State.setMbr_oe (v : Byte) : (s.setMbr v).oe = s.oe := rfl
@[simp] theorem State.setMbr_mem (v : Byte) : (s.setMbr v).mem = s.mem := rfl
@[simp] theorem State.setMbr_iobuf (v : Byte) : (s.setMbr v).iobuf = s.iobuf := rfl
@[simp] theorem State.setMbr_result (v : Byte) : (s.setMbr v).result = s.result := rfl
@[simp] theorem State.setMbr_faultAddr (v : Byte) : (s.setMbr v).faultAddr = s.faultAddr := rfl
@[simp] theorem State.setMbr_diag (v : Byte) : (s.setMbr v).diag = s.diag := rfl
@[simp] theorem State.setMbr_diagLog (v : Byte) : (s.setMbr v).diagLog = s.diagLog := rfl
@[simp] theorem State.setMbr_icount (v : Byte) : (s.setMbr v).icount = s.icount := rfl
@[simp] theorem State.setMbr_transfers (v : Byte) : (s.setMbr v).transfers = s.transfers := rfl

@[simp] theorem State.setIobr_cu (v : Byte) : (s.setIobr v).cu = s.cu := rfl
@[simp] theorem State.setIobr_pc (v : Byte) : (s.setIobr v).pc = s.pc := rfl
@[simp] theorem State.setIobr_ir (v : Byte) : (s.setIobr v).ir = s.ir := rfl
@[simp] theorem State.setIobr_opc (v : Byte) : (s.setIobr v).opc = s.opc := rfl
@[simp] theorem State.setIobr_opr (v : Byte) : (s.setIobr v).opr = s.opr := rfl
@[simp] theorem State.setIobr_mbr (v : Byte) : (s.setIobr v).mbr = s.mbr := rfl
@[simp] theorem State.setIobr_iobr (v : Byte) : (s.setIobr v).iobr = v := rfl
@[simp] theorem State.setIobr_acc (v : Byte) : (s.setIobr v).acc = s.acc := rfl
@[simp] theorem State.setIobr_flags (v : Byte) : (s.setIobr v).flags = s.flags := rfl
@[simp] theorem State.setIobr_bus (v : Byte) : (s.setIobr v).bus = s.bus := rfl
@[simp] theorem State.setIobr_addr (v : Byte) : (s.setIobr v).addr = s.addr := rfl
@[simp] theorem State.setIobr_iom (v : Byte) : (s.setIobr v).iom = s.iom := rfl
@[simp] theorem State.setIobr_rw (v : Byte) : (s.setIobr v).rw = s.rw := rfl
@[simp] theorem State.setIobr_oe (v : Byte) : (s.setIobr v).oe = s.oe := rfl
@[simp] theorem State.setIobr_mem (v : Byte) : (s.setIobr v).mem = s.mem := rfl
@[simp] theorem State.setIobr_iobuf (v : Byte) : (s.setIobr v).iobuf = s.iobuf := rfl
@[simp] theorem State.setIobr_result (v : Byte) : (s.setIobr v).result = s.result := rfl
@[simp] theorem State.setIobr_faultAddr (v : Byte) : (s.setIobr v).faultAddr = s.faultAddr := rfl
@[simp] theorem State.setIobr_diag (v : Byte) : (s.setIobr v).diag = s.diag := rfl
@[simp] theorem State.setIobr_diagLog (v : Byte) : (s.setIobr v).diagLog = s.diagLog := rfl
@[simp] theorem State.setIobr_icount (v : Byte) : (s.setIobr v).icount = s.icount := rfl
@[simp] theorem State.setIobr_transfers (v : Byte) : (s.setIobr v).transfers = s.transfers := rfl

@[simp] theorem State.setAcc_cu (w : Word) : (s.setAcc w).cu = s.cu := rfl
@[simp] theorem State.setAcc_pc (w : Word) : (s.setAcc w).pc = s.pc := rfl
@[simp] theorem State.setAcc_ir (w : Word) : (s.setAcc w).ir = s.ir := rfl
@[simp] theorem State.setAcc_opc (w : Word) : (s.setAcc w).opc = s.opc := rfl
@[simp] theorem State.setAcc_opr (w : Word) : (s.setAcc w).opr = s.opr := rfl
@[simp] theorem State.setAcc_mbr (w : Word) : (s.setAcc w).mbr = s.mbr := rfl
@[simp] theorem State.setAcc_iobr (w : Word) : (s.setAcc w).iobr = s.iobr := rfl
@[simp] theorem State.setAcc_acc (w : Word) : (s.setAcc w).acc = w := rfl
@[simp] theorem State.setAcc_flags (w : Word) : (s.setAcc w).flags = s.flags := rfl
@[simp] theorem State.setAcc_bus (w : Word) : (s.setAcc w).bus = s.bus := rfl
@[simp] theorem State.setAcc_addr (w : Word) : (s.setAcc w).addr = s.addr := rfl
@[simp] theorem State.setAcc_iom (w : Word) : (s.setAcc w).iom = s.iom := rfl
@[simp] theorem State.setAcc_rw (w : Word) : (s.setAcc w).rw = s.rw := rfl
@[simp] theorem State.setAcc_oe (w : Word) : (s.setAcc w).oe = s.oe := rfl
@[simp] theorem State.setAcc_mem (w : Word) : (s.setAcc w).mem = s.mem := rfl
@[simp] theorem State.setAcc_iobuf (w : Word) : (s.setAcc w).iobuf = s.iobuf := rfl
@[simp] theorem State.setAcc_result (w : Word) : (s.setAcc w).result = s.result := rfl
@[simp] theorem State.setAcc_faultAddr (w : Word) : (s.setAcc w).faultAddr = s.faultAddr := rfl
@[simp] theorem State.setAcc_diag (w : Word) : (s.setAcc w).diag = s.diag := rfl
@[simp] theorem State.setAcc_diagLog (w : Word) : (s.setAcc w).diagLog = s.diagLog := rfl
@[simp] theorem State.setAcc_icount (w : Word) : (s.setAcc w).icount = s.icount := rfl
@[simp] theorem State.setAcc_transfers (w : Word) : (s.setAcc w).transfers = s.transfers := rfl

@[simp] theorem State.setFlags_cu (f : Flags) : (s.setFlags f).cu = s.cu := rfl
@[simp] theorem State.setFlags_pc (f : Flags) : (s.setFlags f).pc = s.pc := rfl
@[simp] theorem State.setFlags_ir (f : Flags) : (s.setFlags f).ir = s.ir := rfl
@[simp] theorem State.setFlags_opc (f : Flags) : (s.setFlags f).opc = s.opc := rfl
@[simp] theorem State.setFlags_opr (f : Flags) : (s.setFlags f).opr = s.opr := rfl
@[simp] theorem State.setFlags_mbr (f : Flags) : (s.setFlags f).mbr = s.mbr := rfl
@[simp] theorem State.setFlags_iobr (f : Flags) : (s.setFlags f).iobr = s.iobr := rfl
@[simp] theorem State.setFlags_acc (f : Flags) : (s.setFlags f).acc = s.acc := rfl
@[simp] theorem State.setFlags_flags (f : Flags) : (s.setFlags f).flags = f := rfl
@[simp] theorem State.setFlags_bus (f : Flags) : (s.setFlags f).bus = s.bus := rfl
@[simp] theorem State.setFlags_addr (f : Flags) : (s.setFlags f).addr = s.addr := rfl
@[simp] theorem State.setFlags_iom (f : Flags) : (s.setFlags f).iom = s.iom := rfl
@[simp] theorem State.setFlags_rw (f : Flags) : (s.setFlags f).rw = s.rw := rfl
@[simp] theorem State.setFlags_oe (f : Flags) : (s.setFlags f).oe = s.oe := rfl
@[simp] theorem State.setFlags_mem (f : Flags) : (s.setFlags f).mem = s.mem := rfl
@[simp] theorem State.setFlags_iobuf (f : Flags) : (s.setFlags f).iobuf = s.iobuf := rfl
@[simp] theorem State.setFlags_result (f : Flags) : (s.setFlags f).result = s.result := rfl
@[simp] theorem State.setFlags_faultAddr (f : Flags) : (s.setFlags f).faultAddr = s.faultAddr := rfl
@[simp] theorem State.setFlags_diag (f : Flags) : (s.setFlags f).diag = s.diag := rfl
@[simp] theorem State.setFlags_diagLog (f : Flags) : (s.setFlags f).diagLog = s.diagLog := rfl
@[simp] theorem State.setFlags_icount (f : Flags) : (s.setFlags f).icount = s.icount := rfl
@[simp] theorem State.setFlags_transfers (f : Flags) : (s.setFlags f).transfers = s.transfers := rfl

@[simp] theorem State.setBus_cu (v : Byte) : (s.setBus v).cu = s.cu := rfl
@[simp] theorem State.setBus_pc (v : Byte) : (s.setBus v).pc = s.pc := rfl
@[simp] theorem State.setBus_ir (v : Byte) : (s.setBus v).ir = s.ir := rfl
@[simp] theorem State.setBus_opc (v : Byte) : (s.setBus v).opc = s.opc := rfl
@[simp] theorem State.setBus_opr (v : Byte) : (s.setBus v).opr = s.opr := rfl
@[simp] theorem State.setBus_mbr (v : Byte) : (s.setBus v).mbr = s.mbr := rfl
@[simp] theorem State.setBus_iobr (v : Byte) : (s.setBus v).iobr = s.iobr := rfl
@[simp] theorem State.setBus_acc (v : Byte) : (s.setBus v).acc = s.acc := rfl
@[simp] theorem State.setBus_flags (v : Byte) : (s.setBus v).flags = s.flags := rfl
@[simp] theorem State.setBus_bus (v : Byte) : (s.setBus v).bus = v := rfl
@[simp] theorem State.setBus_addr (v : Byte) : (s.setBus v).addr = s.addr := rfl
@[simp] theorem State.setBus_iom (v : Byte) : (s.setBus v).iom = s.iom := rfl
@[simp] theorem State.setBus_rw (v : Byte) : (s.setBus v).rw = s.rw := rfl
@[simp] theorem State.setBus_oe (v : Byte) : (s.setBus v).oe = s.oe := rfl
@[simp] theorem State.setBus_mem (v : Byte) : (s.setBus v).mem = s.mem := rfl
@[simp] theorem State.setBus_iobuf (v : Byte) : (s.setBus v).iobuf = s.iobuf := rfl
@[simp] theorem State.setBus_result (v : Byte) : (s.setBus v).result = s.result := rfl
@[simp] theorem State.setBus_faultAddr (v : Byte) : (s.setBus v).faultAddr = s.faultAddr := rfl
@[simp] theorem State.setBus_diag (v : Byte) : (s.setBus v).diag = s.diag := rfl
@[simp] theorem State.setBus_diagLog (v : Byte) : (s.setBus v).diagLog = s.diagLog := rfl
@[simp] theorem State.setBus_icount (v : Byte) : (s.setBus v).icount = s.icount := rfl
@[simp] theorem State.setBus_transfers (v : Byte) : (s.setBus v).transfers = s.transfers := rfl

@[simp] theorem State.setAddr_cu (a : Addr) : (s.setAddr a).cu = s.cu := rfl
@[simp] theorem State.setAddr_pc (a : Addr) : (s.setAddr a).pc = s.pc := rfl
@[simp] theorem State.setAddr_ir (a : Addr) : (s.setAddr a).ir = s.ir := rfl
@[simp] theorem State.setAddr_opc (a : Addr) : (s.setAddr a).opc = s.opc := rfl
@[simp] theorem State.setAddr_opr (a : Addr) : (s.setAddr a).opr = s.opr := rfl
@[simp] theorem State.setAddr_mbr (a : Addr) : (s.setAddr a).mbr = s.mbr := rfl
@[simp] theorem State.setAddr_iobr (a : Addr) : (s.setAddr a).iobr = s.iobr := rfl
@[simp] theorem State.setAddr_acc (a : Addr) : (s.setAddr a).acc = s.acc := rfl
@[simp] theorem State.setAddr_flags (a : Addr) : (s.setAddr a).flags = s.flags := rfl
@[simp] theorem State.setAddr_bus (a : Addr) : (s.setAddr a).bus = s.bus := rfl
@[simp] theorem State.setAddr_addr (a : Addr) : (s.setAddr a).addr = a := rfl
@[simp] theorem State.setAddr_iom (a : Addr) : (s.setAddr a).iom = s.iom := rfl
@[simp] theorem State.setAddr_rw (a : Addr) : (s.setAddr a).rw = s.rw := rfl
@[simp] theorem State.setAddr_oe (a : Addr) : (s.setAddr a).oe = s.oe := rfl
@[simp] theorem State.setAddr_mem (a : Addr) : (s.setAddr a).mem = s.mem := rfl
@[simp] theorem State.setAddr_iobuf (a : Addr) : (s.setAddr a).iobuf = s.iobuf := rfl
@[simp] theorem State.setAddr_result (a : Addr) : (s.setAddr a).result = s.result := rfl
@[simp] theorem State.setAddr_faultAddr (a : Addr) : (s.setAddr a).faultAddr = s.faultAddr := rfl
@[simp] theorem State.setAddr_diag (a : Addr) : (s.setAddr a).diag = s.diag := rfl
@[simp] theorem State.setAddr_diagLog (a : Addr) : (s.setAddr a).diagLog = s.diagLog := rfl
@[simp] theorem State.setAddr_icount (a : Addr) : (s.setAddr a).icount = s.icount := rfl
@[simp] theorem State.setAddr_transfers (a : Addr) : (s.setAddr a).transfers = s.transfers := rfl

@[simp] theorem State.setLines_cu (i : Bool) (d : Direction) (o : Bool) : (s.setLines i d o).cu = s.cu := rfl
@[simp] theorem State.setLines_pc (i : Bool) (d : Direction) (o : Bool) : (s.setLines i d o).pc = s.pc := rfl
@[simp] theorem State.setLines_ir (i : Bool) (d : Direction) (o : Bool) : (s.setLines i d o).ir = s.ir := rfl
@[simp] theorem State.setLines_opc (i : Bool) (d : Direction) (o : Bool) : (s.setLines i d o).opc = s.opc := rfl
@[simp] theorem State.setLines_opr (i : Bool) (d : Direction) (o : Bool) : (s.setLines i d o).opr = s.opr := rfl
@[simp] theorem State.setLines_mbr (i : Bool) (d : Direction) (o : Bool) : (s.setLines i d o).mbr = s.mbr := rfl
@[simp] theorem State.setLines_iobr (i : Bool) (d : Direction) (o : Bool) : (s.setLines i d o).iobr = s.iobr := rfl
@[simp] theorem State.setLines_acc (i : Bool) (d : Direction) (o : Bool) : (s.setLines i d o).acc = s.acc := rfl
@[simp] theorem State.setLines_flags (i : Bool) (d : Direction) (o : Bool) : (s.setLines i d o).flags = s.flags := rfl
@[simp] theorem State.setLines_bus (i : Bool) (d : Direction) (o : Bool) : (s.setLines i d o).bus = s.bus := rfl
@[simp] theorem State.setLines_addr (i : Bool) (d : Direction) (o : Bool) : (s.setLines i d o).addr = s.addr := rfl
@[simp] theorem State.setLines_iom (i : Bool) (d : Direction) (o : Bool) : (s.setLines i d o).iom = i := rfl
@[simp] theorem State.setLines_rw (i : Bool) (d : Direction) (o : Bool) : (s.setLines i d o).rw = d := rfl
@[simp] theorem State.setLines_oe (i : Bool) (d : Direction) (o : Bool) : (s.setLines i d o).oe = o := rfl
@[simp] theorem State.setLines_mem (i : Bool) (d : Direction) (o : Bool) : (s.setLines i d o).mem = s.mem := rfl
@[simp] theorem State.setLines_iobuf (i : Bool) (d : Direction) (o : Bool) : (s.setLines i d o).iobuf = s.iobuf := rfl
@[simp] theorem State.setLines_result (i : Bool) (d : Direction) (o : Bool) : (s.setLines i d o).result = s.result := rfl
@[simp] theorem State.setLines_faultAddr (i : Bool) (d : Direction) (o : Bool) : (s.setLines i d o).faultAddr = s.faultAddr := rfl
@[simp] theorem State.setLines_diag (i : Bool) (d : Direction) (o : Bool) : (s.setLines i d o).diag = s.diag := rfl
@[simp] theorem State.setLines_diagLog (i : Bool) (d : Direction) (o : Bool) : (s.setLines i d o).diagLog = s.diagLog := rfl
@[simp] theorem State.setLines_icount (i : Bool) (d : Direction) (o : Bool) : (s.setLines i d o).icount = s.icount := rfl
@[simp] theorem State.setLines_transfers (i : Bool) (d : Direction) (o : Bool) : (s.setLines i d o).transfers = s.transfers := rfl

@[simp] theorem State.setMem_cu (m : Memory) : (s.setMem m).cu = s.cu := rfl
@[simp] theorem State.setMem_pc (m : Memory) : (s.setMem m).pc = s.pc := rfl
@[simp] theorem State.setMem_ir (m : Memory) : (s.setMem m).ir = s.ir := rfl
@[simp] theorem State.setMem_opc (m : Memory) : (s.setMem m).opc = s.opc := rfl
@[simp] theorem State.setMem_opr (m : Memory) : (s.setMem m).opr = s.opr := rfl
@[simp] theorem State.setMem_mbr (m : Memory) : (s.setMem m).mbr = s.mbr := rfl
@[simp] theorem State.setMem_iobr (m : Memory) : (s.setMem m).iobr = s.iobr := rfl
@[simp] theorem State.setMem_acc (m : Memory) : (s.setMem m).acc = s.acc := rfl
@[simp] theorem State.setMem_flags (m : Memory) : (s.setMem m).flags = s.flags := rfl
@[simp] theorem State.setMem_bus (m : Memory) : (s.setMem m).bus = s.bus := rfl
@[simp] theorem State.setMem_addr (m : Memory) : (s.setMem m).addr = s.addr := rfl
@[simp] theorem State.setMem_iom (m : Memory) : (s.setMem m).iom = s.iom := rfl
@[simp] theorem State.setMem_rw (m : Memory) : (s.setMem m).rw = s.rw := rfl
@[simp] theorem State.setMem_oe (m : Memory) : (s.setMem m).oe = s.oe := rfl
@[simp] theorem State.setMem_mem (m : Memory) : (s.setMem m).mem = m := rfl
@[simp] theorem State.setMem_iobuf (m : Memory) : (s.setMem m).iobuf = s.iobuf := rfl
@[simp] theorem State.setMem_result (m : Memory) : (s.setMem m).result = s.result := rfl
@[simp] theorem State.setMem_faultAddr (m : Memory) : (s.setMem m).faultAddr = s.faultAddr := rfl
@[simp] theorem State.setMem_diag (m : Memory) : (s.setMem m).diag = s.diag := rfl
@[simp] theorem State.setMem_diagLog (m : Memory) : (s.setMem m).diagLog = s.diagLog := rfl
@[simp] theorem State.setMem_icount (m : Memory) : (s.setMem m).icount = s.icount := rfl
@[simp] theorem State.setMem_transfers (m : Memory) : (s.setMem m).transfers = s.transfers := rfl

@[simp] theorem State.setIobuf_cu (b : Vector Byte 32) : (s.setIobuf b).cu = s.cu := rfl
@[simp] theorem State.setIobuf_pc (b : Vector Byte 32) : (s.setIobuf b).pc = s.pc := rfl
@[simp] theorem State.setIobuf_ir (b : Vector Byte 32) : (s.setIobuf b).ir = s.ir := rfl
@[simp] theorem State.setIobuf_opc (b : Vector Byte 32) : (s.setIobuf b).opc = s.opc := rfl
@[simp] theorem State.setIobuf_opr (b : Vector Byte 32) : (s.setIobuf b).opr = s.opr := rfl
@[simp] theorem State.setIobuf_mbr (b : Vector Byte 32) : (s.setIobuf b).mbr = s.mbr := rfl
@[simp] theorem State.setIobuf_iobr (b : Vector Byte 32) : (s.setIobuf b).iobr = s.iobr := rfl
@[simp] theorem State.setIobuf_acc (b : Vector Byte 32) : (s.setIobuf b).acc = s.acc := rfl
@[simp] theorem State.setIobuf_flags (b : Vector Byte 32) : (s.setIobuf b).flags = s.flags := rfl
@[simp] theorem State.setIobuf_bus (b : Vector Byte 32) : (s.setIobuf b).bus = s.bus := rfl
@[simp] theorem State.setIobuf_addr (b : Vector Byte 32) : (s.setIobuf b).addr = s.addr := rfl
@[simp] theorem State.setIobuf_iom (b : Vector Byte 32) : (s.setIobuf b).iom = s.iom := rfl
@[simp] theorem State.setIobuf_rw (b : Vector Byte 32) : (s.setIobuf b).rw = s.rw := rfl
@[simp] theorem State.setIobuf_oe (b : Vector Byte 32) : (s.setIobuf b).oe = s.oe := rfl
@[simp] theorem State.setIobuf_mem (b : Vector Byte 32) : (s.setIobuf b).mem = s.mem := rfl
@[simp] theorem State.setIobuf_iobuf (b : Vector Byte 32) : (s.setIobuf b).iobuf = b := rfl
@[simp] theorem State.setIobuf_result (b : Vector Byte 32) : (s.setIobuf b).result = s.result := rfl
@[simp] theorem State.setIobuf_faultAddr (b : Vector Byte 32) : (s.setIobuf b).faultAddr = s.faultAddr := rfl
@[simp] theorem State.setIobuf_diag (b : Vector Byte 32) : (s.setIobuf b).diag = s.diag := rfl
@[simp] theorem State.setIobuf_diagLog (b : Vector Byte 32) : (s.setIobuf b).diagLog = s.diagLog := rfl
@[simp] theorem State.setIobuf_icount (b : Vector Byte 32) : (s.setIobuf b).icount = s.icount := rfl
@[simp] theorem State.setIobuf_transfers (b : Vector Byte 32) : (s.setIobuf b).transfers = s.transfers := rfl

@[simp] theorem State.setResult_cu (r : RunResult) : (s.setResult r).cu = s.cu := rfl
@[simp] theorem State.setResult_pc (r : RunResult) : (s.setResult r).pc = s.pc := rfl
@[simp] theorem State.setResult_ir (r : RunResult) : (s.setResult r).ir = s.ir := rfl
@[simp] theorem State.setResult_opc (r : RunResult) : (s.setResult r).opc = s.opc := rfl
@[simp] theorem State.setResult_opr (r : RunResult) : (s.setResult r).opr = s.opr := rfl
@[simp] theorem State.setResult_mbr (r : RunResult) : (s.setResult r).mbr = s.mbr := rfl
@[simp] theorem State.setResult_iobr (r : RunResult) : (s.setResult r).iobr = s.iobr := rfl
@[simp] theorem State.setResult_acc (r : RunResult) : (s.setResult r).acc = s.acc := rfl
@[simp] theorem State.setResult_flags (r : RunResult) : (s.setResult r).flags = s.flags := rfl
@[simp] theorem State.setResult_bus (r : RunResult) : (s.setResult r).bus = s.bus := rfl
@[simp] theorem State.setResult_addr (r : RunResult) : (s.setResult r).addr = s.addr := rfl
@[simp] theorem State.setResult_iom (r : RunResult) : (s.setResult r).iom = s.iom := rfl
@[simp] theorem State.setResult_rw (r : RunResult) : (s.setResult r).rw = s.rw := rfl
@[simp] theorem State.setResult_oe (r : RunResult) : (s.setResult r).oe = s.oe := rfl
@[simp] theorem State.setResult_mem (r : RunResult) : (s.setResult r).mem = s.mem := rfl
@[simp] theorem State.setResult_iobuf (r : RunResult) : (s.setResult r).iobuf = s.iobuf := rfl
@[simp] theorem State.setResult_result (r : RunResult) : (s.setResult r).result = r := rfl
@[simp] theorem State.setResult_faultAddr (r : RunResult) : (s.setResult r).faultAddr = s.faultAddr := rfl
@[simp] theorem State.setResult_diag (r : RunResult) : (s.setResult r).diag = s.diag := rfl
@[simp] theorem State.setResult_diagLog (r : RunResult) : (s.setResult r).diagLog = s.diagLog := rfl
@[simp] theorem State.setResult_icount (r : RunResult) : (s.setResult r).icount = s.icount := rfl
@[simp] theorem State.setResult_transfers (r : RunResult) : (s.setResult r).transfers = s.transfers := rfl

@[simp] theorem State.setFaultAddr_cu (a : BitVec 12) : (s.setFaultAddr a).cu = s.cu := rfl
@[simp] theorem State.setFaultAddr_pc (a : BitVec 12) : (s.setFaultAddr a).pc = s.pc := rfl
@[simp] theorem State.setFaultAddr_ir (a : BitVec 12) : (s.setFaultAddr a).ir = s.ir := rfl
@[simp] theorem State.setFaultAddr_opc (a : BitVec 12) : (s.setFaultAddr a).opc = s.opc := rfl
@[simp] theorem State.setFaultAddr_opr (a : BitVec 12) : (s.setFaultAddr a).opr = s.opr := rfl
@[simp] theorem State.setFaultAddr_mbr (a : BitVec 12) : (s.setFaultAddr a).mbr = s.mbr := rfl
@[simp] theorem State.setFaultAddr_iobr (a : BitVec 12) : (s.setFaultAddr a).iobr = s.iobr := rfl
@[simp] theorem State.setFaultAddr_acc (a : BitVec 12) : (s.setFaultAddr a).acc = s.acc := rfl
@[simp] theorem State.setFaultAddr_flags (a : BitVec 12) : (s.setFaultAddr a).flags = s.flags := rfl
@[simp] theorem State.setFaultAddr_bus (a : BitVec 12) : (s.setFaultAddr a).bus = s.bus := rfl
@[simp] theorem State.setFaultAddr_addr (a : BitVec 12) : (s.setFaultAddr a).addr = s.addr := rfl
@[simp] theorem State.setFaultAddr_iom (a : BitVec 12) : (s.setFaultAddr a).iom = s.iom := rfl
@[simp] theorem State.setFaultAddr_rw (a : BitVec 12) : (s.setFaultAddr a).rw = s.rw := rfl
@[simp] theorem State.setFaultAddr_oe (a : BitVec 12) : (s.setFaultAddr a).oe = s.oe := rfl
@[simp] theorem State.setFaultAddr_mem (a : BitVec 12) : (s.setFaultAddr a).mem = s.mem := rfl
@[simp] theorem State.setFaultAddr_iobuf (a : BitVec 12) : (s.setFaultAddr a).iobuf = s.iobuf := rfl
@[simp] theorem State.setFaultAddr_result (a : BitVec 12) : (s.setFaultAddr a).result = s.result := rfl
@[simp] theorem State.setFaultAddr_faultAddr (a : BitVec 12) : (s.setFaultAddr a).faultAddr = a := rfl
@[simp] theorem State.setFaultAddr_diag (a : BitVec 12) : (s.setFaultAddr a).diag = s.diag := rfl
@[simp] theorem State.setFaultAddr_diagLog (a : BitVec 12) : (s.setFaultAddr a).diagLog = s.diagLog := rfl
@[simp] theorem State.setFaultAddr_icount (a : BitVec 12) : (s.setFaultAddr a).icount = s.icount := rfl
@[simp] theorem State.setFaultAddr_transfers (a : BitVec 12) : (s.setFaultAddr a).transfers = s.transfers := rfl

@[simp] theorem State.recordDiag_cu (r : DiagRecord) : (s.recordDiag r).cu = s.cu := rfl
@[simp] theorem State.recordDiag_pc (r : DiagRecord) : (s.recordDiag r).pc = s.pc := rfl
@[simp] theorem State.recordDiag_ir (r : DiagRecord) : (s.recordDiag r).ir = s.ir := rfl
@[simp] theorem State.recordDiag_opc (r : DiagRecord) : (s.recordDiag r).opc = s.opc := rfl
@[simp] theorem State.recordDiag_opr (r : DiagRecord) : (s.recordDiag r).opr = s.opr := rfl
@[simp] theorem State.recordDiag_mbr (r : DiagRecord) : (s.recordDiag r).mbr = s.mbr := rfl
@[simp] theorem State.recordDiag_iobr (r : DiagRecord) : (s.recordDiag r).iobr = s.iobr := rfl
@[simp] theorem State.recordDiag_acc (r : DiagRecord) : (s.recordDiag r).acc = s.acc := rfl
@[simp] theorem State.recordDiag_flags (r : DiagRecord) : (s.recordDiag r).flags = s.flags := rfl
@[simp] theorem State.recordDiag_bus (r : DiagRecord) : (s.recordDiag r).bus = s.bus := rfl
@[simp] theorem State.recordDiag_addr (r : DiagRecord) : (s.recordDiag r).addr = s.addr := rfl
@[simp] theorem State.recordDiag_iom (r : DiagRecord) : (s.recordDiag r).iom = s.iom := rfl
@[simp] theorem State.recordDiag_rw (r : DiagRecord) : (s.recordDiag r).rw = s.rw := rfl
@[simp] theorem State.recordDiag_oe (r : DiagRecord) : (s.recordDiag r).oe = s.oe := rfl
@[simp] theorem State.recordDiag_mem (r : DiagRecord) : (s.recordDiag r).mem = s.mem := rfl
@[simp] theorem State.recordDiag_iobuf (r : DiagRecord) : (s.recordDiag r).iobuf = s.iobuf := rfl
@[simp] theorem State.recordDiag_result (r : DiagRecord) : (s.recordDiag r).result = s.result := rfl
@[simp] theorem State.recordDiag_faultAddr (r : DiagRecord) : (s.recordDiag r).faultAddr = s.faultAddr := rfl
@[simp] theorem State.recordDiag_diag (r : DiagRecord) : (s.recordDiag r).diag = s.diag + 1 := rfl
@[simp] theorem State.recordDiag_diagLog (r : DiagRecord) : (s.recordDiag r).diagLog = s.diagLog ++ [r] := rfl
@[simp] theorem State.recordDiag_icount (r : DiagRecord) : (s.recordDiag r).icount = s.icount := rfl
@[simp] theorem State.recordDiag_transfers (r : DiagRecord) : (s.recordDiag r).transfers = s.transfers := rfl

@[simp] theorem State.countDiag_cu : (s.countDiag).cu = s.cu := rfl
@[simp] theorem State.countDiag_pc : (s.countDiag).pc = s.pc := rfl
@[simp] theorem State.countDiag_ir : (s.countDiag).ir = s.ir := rfl
@[simp] theorem State.countDiag_opc : (s.countDiag).opc = s.opc := rfl
@[simp] theorem State.countDiag_opr : (s.countDiag).opr = s.opr := rfl
@[simp] theorem State.countDiag_mbr : (s.countDiag).mbr = s.mbr := rfl
@[simp] theorem State.countDiag_iobr : (s.countDiag).iobr = s.iobr := rfl
@[simp] theorem State.countDiag_acc : (s.countDiag).acc = s.acc := rfl
@[simp] theorem State.countDiag_flags : (s.countDiag).flags = s.flags := rfl
@[simp] theorem State.countDiag_bus : (s.countDiag).bus = s.bus := rfl
@[simp] theorem State.countDiag_addr : (s.countDiag).addr = s.addr := rfl
@[simp] theorem State.countDiag_iom : (s.countDiag).iom = s.iom := rfl
@[simp] theorem State.countDiag_rw : (s.countDiag).rw = s.rw := rfl
@[simp] theorem State.countDiag_oe : (s.countDiag).oe = s.oe := rfl
@[simp] theorem State.countDiag_mem : (s.countDiag).mem = s.mem := rfl
@[simp] theorem State.countDiag_iobuf : (s.countDiag).iobuf = s.iobuf := rfl
@[simp] theorem State.countDiag_result : (s.countDiag).result = s.result := rfl
@[simp] theorem State.countDiag_faultAddr : (s.countDiag).faultAddr = s.faultAddr := rfl
@[simp] theorem State.countDiag_diag : (s.countDiag).diag = s.diag + 1 := rfl
@[simp] theorem State.countDiag_diagLog : (s.countDiag).diagLog = s.diagLog := rfl
@[simp] theorem State.countDiag_icount : (s.countDiag).icount = s.icount := rfl
@[simp] theorem State.countDiag_transfers : (s.countDiag).transfers = s.transfers := rfl

@[simp] theorem State.countInstr_cu : (s.countInstr).cu = s.cu := rfl
@[simp] theorem State.countInstr_pc : (s.countInstr).pc = s.pc := rfl
@[simp] theorem State.countInstr_ir : (s.countInstr).ir = s.ir := rfl
@[simp] theorem State.countInstr_opc : (s.countInstr).opc = s.opc := rfl
@[simp] theorem State.countInstr_opr : (s.countInstr).opr = s.opr := rfl
@[simp] theorem State.countInstr_mbr : (s.countInstr).mbr = s.mbr := rfl
@[simp] theorem State.countInstr_iobr : (s.countInstr).iobr = s.iobr := rfl
@[simp] theorem State.countInstr_acc : (s.countInstr).acc = s.acc := rfl
@[simp] theorem State.countInstr_flags : (s.countInstr).flags = s.flags := rfl
@[simp] theorem State.countInstr_bus : (s.countInstr).bus = s.bus := rfl
@[simp] theorem State.countInstr_addr : (s.countInstr).addr = s.addr := rfl
@[simp] theorem State.countInstr_iom : (s.countInstr).iom = s.iom := rfl
@[simp] theorem State.countInstr_rw : (s.countInstr).rw = s.rw := rfl
@[simp] theorem State.countInstr_oe : (s.countInstr).oe = s.oe := rfl
@[simp] theorem State.countInstr_mem : (s.countInstr).mem = s.mem := rfl
@[simp] theorem State.countInstr_iobuf : (s.countInstr).iobuf = s.iobuf := rfl
@[simp] theorem State.countInstr_result : (s.countInstr).result = s.result := rfl
@[simp] theorem State.countInstr_faultAddr : (s.countInstr).faultAddr = s.faultAddr := rfl
@[simp] theorem State.countInstr_diag : (s.countInstr).diag = s.diag := rfl
@[simp] theorem State.countInstr_diagLog : (s.countInstr).diagLog = s.diagLog := rfl
@[simp] theorem State.countInstr_icount : (s.countInstr).icount = s.icount + 1 := rfl
@[simp] theorem State.countInstr_transfers : (s.countInstr).transfers = s.transfers := rfl

@[simp] theorem State.countTransfer_cu : (s.countTransfer).cu = s.cu := rfl
@[simp] theorem State.countTransfer_pc : (s.countTransfer).pc = s.pc := rfl
@[simp] theorem State.countTransfer_ir : (s.countTransfer).ir = s.ir := rfl
@[simp] theorem State.countTransfer_opc : (s.countTransfer).opc = s.opc := rfl
@[simp] theorem State.countTransfer_opr : (s.countTransfer).opr = s.opr := rfl
@[simp] theorem State.countTransfer_mbr : (s.countTransfer).mbr = s.mbr := rfl
@[simp] theorem State.countTransfer_iobr : (s.countTransfer).iobr = s.iobr := rfl
@[simp] theorem State.countTransfer_acc : (s.countTransfer).acc = s.acc := rfl
@[simp] theorem State.countTransfer_flags : (s.countTransfer).flags = s.flags := rfl
@[simp] theorem State.countTransfer_bus : (s.countTransfer).bus = s.bus := rfl
@[simp] theorem State.countTransfer_addr : (s.countTransfer).addr = s.addr := rfl
@[simp] theorem State.countTransfer_iom : (s.countTransfer).iom = s.iom := rfl
@[simp] theorem State.countTransfer_rw : (s.countTransfer).rw = s.rw := rfl
@[simp] theorem State.countTransfer_oe : (s.countTransfer).oe = s.oe := rfl
@[simp] theorem State.countTransfer_mem : (s.countTransfer).mem = s.mem := rfl
@[simp] theorem State.countTransfer_iobuf : (s.countTransfer).iobuf = s.iobuf := rfl
@[simp] theorem State.countTransfer_result : (s.countTransfer).result = s.result := rfl
@[simp] theorem State.countTransfer_faultAddr : (s.countTransfer).faultAddr = s.faultAddr := rfl
@[simp] theorem State.countTransfer_diag : (s.countTransfer).diag = s.diag := rfl
@[simp] theorem State.countTransfer_diagLog : (s.countTransfer).diagLog = s.diagLog := rfl
@[simp] theorem State.countTransfer_icount : (s.countTransfer).icount = s.icount := rfl
@[simp] theorem State.countTransfer_transfers : (s.countTransfer).transfers = s.transfers + 1 := rfl

/-- Two states with the same fields are the same state. -/
theorem State.ext_fields {s t : State}
    (h_cu : s.cu = t.cu)
    (h_pc : s.pc = t.pc)
    (h_ir : s.ir = t.ir)
    (h_opc : s.opc = t.opc)
    (h_opr : s.opr = t.opr)
    (h_mbr : s.mbr = t.mbr)
    (h_iobr : s.iobr = t.iobr)
    (h_acc : s.acc = t.acc)
    (h_flags : s.flags = t.flags)
    (h_bus : s.bus = t.bus)
    (h_addr : s.addr = t.addr)
    (h_iom : s.iom = t.iom)
    (h_rw : s.rw = t.rw)
    (h_oe : s.oe = t.oe)
    (h_mem : s.mem = t.mem)
    (h_iobuf : s.iobuf = t.iobuf)
    (h_result : s.result = t.result)
    (h_faultAddr : s.faultAddr = t.faultAddr)
    (h_diag : s.diag = t.diag)
    (h_diagLog : s.diagLog = t.diagLog)
    (h_icount : s.icount = t.icount)
    (h_transfers : s.transfers = t.transfers) : s = t := by
  cases s; cases t; simp_all

end Sys2Proof.Machine
end

