-- ==== Sys2Proof/Laws/Memory.lean ====
section
/-! SUPPORT. The laws of the cell list: reading after writing, the canonical form kept by every memory operation, and that
the form determines the list. -/

namespace Sys2Proof.Machine

/-- A cell put in front of a list that holds only higher addresses reads back; the others are as before. -/
theorem Memory.read_putCell {m : Memory} {a : Nat} (v : Byte) (h : m.read a = unlisted) (b : Nat) :
    (Memory.putCell a v m).read b = if b = a then v else m.read b := by
  unfold Memory.putCell
  split <;> rename_i hv
  · split <;> simp_all
  · simp only [Memory.read]
    by_cases hb : a = b <;> simp [hb, eq_comm]

/-- An address below a list in canonical form is unlisted. -/
theorem Memory.read_below {m : Memory} {lo a : Nat} (h : Memory.wfFrom lo m = true) (ha : a < lo) :
    m.read a = unlisted := by
  induction m generalizing lo with
  | nil => rfl
  | cons c m ih =>
    obtain ⟨a', v'⟩ := c
    simp only [Memory.wfFrom, Bool.and_eq_true, decide_eq_true_eq] at h
    simp only [Memory.read]
    rw [if_neg (by omega)]
    exact ih h.2 (by omega)

/-- The canonical form from an address is the canonical form from any lower one. -/
theorem Memory.wfFrom_mono {m : Memory} {lo lo' : Nat} (h : Memory.wfFrom lo m = true) (hl : lo' ≤ lo) :
    Memory.wfFrom lo' m = true := by
  cases m with
  | nil => rfl
  | cons c m =>
    obtain ⟨a', v'⟩ := c
    simp only [Memory.wfFrom, Bool.and_eq_true, decide_eq_true_eq] at h ⊢
    exact ⟨⟨⟨by omega, h.1.1.2⟩, h.1.2⟩, h.2⟩

/-- Reading after writing, on a list in canonical form. -/
theorem Memory.read_write_from {m : Memory} {lo : Nat} (h : Memory.wfFrom lo m = true) (a : Nat) (v : Byte) (b : Nat) :
    (m.write a v).read b = if b = a then v else m.read b := by
  induction m generalizing lo with
  | nil => exact Memory.read_putCell v rfl b
  | cons c m ih =>
    obtain ⟨a', v'⟩ := c
    simp only [Memory.wfFrom, Bool.and_eq_true, decide_eq_true_eq] at h
    simp only [Memory.write]
    split
    · rename_i hlt
      refine Memory.read_putCell v ?_ b
      simp only [Memory.read]
      rw [if_neg (by omega)]
      exact Memory.read_below h.2 (by omega)
    · split
      · rename_i heq
        subst heq
        rw [Memory.read_putCell v (Memory.read_below h.2 (by omega)) b]
        by_cases hb : b = a
        · simp [hb]
        · simp [Memory.read, hb, Ne.symm hb]
      · rename_i hlt hne
        simp only [Memory.read]
        by_cases hb : a' = b
        · subst hb
          simp [Ne.symm hne]
        · simp only [hb, if_false]
          exact ih h.2

/-- Reading after writing. -/
theorem Memory.read_write {m : Memory} (h : m.wf = true) (a : Nat) (v : Byte) (b : Nat) :
    (m.write a v).read b = if b = a then v else m.read b :=
  Memory.read_write_from h a v b

/-- A cell put in front keeps the canonical form. -/
theorem Memory.putCell_wfFrom {m : Memory} {lo a : Nat} (v : Byte) (hlo : lo ≤ a) (ha : a ≤ 0x7FF)
    (h : Memory.wfFrom (a + 1) m = true) : Memory.wfFrom lo (Memory.putCell a v m) = true := by
  unfold Memory.putCell
  split <;> rename_i hv
  · exact Memory.wfFrom_mono h (by omega)
  · simp only [Memory.wfFrom, Bool.and_eq_true, decide_eq_true_eq]
    exact ⟨⟨⟨hlo, ha⟩, hv⟩, h⟩

/-- Writing keeps the canonical form from an address on. -/
theorem Memory.write_wfFrom {m : Memory} {lo a : Nat} (v : Byte) (hlo : lo ≤ a) (ha : a ≤ 0x7FF)
    (h : Memory.wfFrom lo m = true) : Memory.wfFrom lo (m.write a v) = true := by
  induction m generalizing lo with
  | nil => exact Memory.putCell_wfFrom v hlo ha rfl
  | cons c m ih =>
    obtain ⟨a', v'⟩ := c
    simp only [Memory.wfFrom, Bool.and_eq_true, decide_eq_true_eq] at h
    simp only [Memory.write]
    split
    · refine Memory.putCell_wfFrom v hlo ha ?_
      simp only [Memory.wfFrom, Bool.and_eq_true, decide_eq_true_eq]
      exact ⟨⟨⟨by omega, h.1.1.2⟩, h.1.2⟩, h.2⟩
    · split
      · rename_i heq
        subst heq
        exact Memory.putCell_wfFrom v hlo ha h.2
      · simp only [Memory.wfFrom, Bool.and_eq_true, decide_eq_true_eq]
        exact ⟨h.1, ih (by omega) h.2⟩

/-- Writing an address of memory keeps the canonical form. -/
theorem Memory.write_wf {m : Memory} {a : Nat} (v : Byte) (ha : a ≤ 0x7FF) (h : m.wf = true) :
    (m.write a v).wf = true :=
  Memory.write_wfFrom v (Nat.zero_le a) ha h

/-- Everything a memory read can do (20_memory.md R55). -/
theorem memRead_cases (a : Nat) (s : State) :
    (0x7FF < a ∧ memRead a s = none) ∨ (a ≤ 0x7FF ∧ memRead a s = some (s.mem.read a)) := by
  unfold memRead
  split
  · exact .inl ⟨‹_›, rfl⟩
  · exact .inr ⟨by omega, rfl⟩

/-- Everything a memory write can do (20_memory.md R55). -/
theorem memWrite_cases (a : Nat) (v : Byte) (s : State) :
    (0x7FF < a ∧ memWrite a v s = none) ∨ (a ≤ 0x7FF ∧ memWrite a v s = some (s.setMem (s.mem.write a v))) := by
  unfold memWrite
  split
  · exact .inl ⟨‹_›, rfl⟩
  · exact .inr ⟨by omega, rfl⟩

/-- A memory write keeps the canonical form. -/
theorem memWrite_wf {a : Nat} {v : Byte} {s s' : State} (h : s.mem.wf = true) (hw : memWrite a v s = some s') :
    s'.mem.wf = true := by
  obtain ⟨-, hn⟩ | ⟨ha, hs⟩ := memWrite_cases a v s
  · simp [hn] at hw
  · rw [hs] at hw
    cases hw
    exact Memory.write_wf v ha h

/-- Loading an image keeps the canonical form. -/
theorem loadImage_wf {img : Image} {s s' : State} (h : s.mem.wf = true) (hl : loadImage img s = .ok s') :
    s'.mem.wf = true := by
  induction img generalizing s with
  | nil => cases hl; exact h
  | cons c img ih =>
    obtain ⟨a, v⟩ := c
    simp only [loadImage] at hl
    split at hl
    · rename_i t ht
      exact ih (memWrite_wf h ht) hl
    · cases hl

/-- The memory of the reset state is in canonical form. -/
theorem State.reset_mem_wf : State.reset.mem.wf = true := rfl

end Sys2Proof.Machine
end

