-- ==== Sys2Proof/Laws/Ops.lean ====
section
/-! SUPPORT. What each shared operation can do, said once: the bus transfer, the errors, the ALU command, the branch. -/

namespace Sys2Proof.Machine

/-- A disconnected bus transfers nothing (20_memory.md R63). -/
theorem transfer_disconnected {s : State} (h : s.oe = false) : transfer s = s := by
  unfold transfer
  rw [h]

/-- A memory read on the bus: no 11-bit address is out of range (20_memory.md R55, R64). -/
theorem transferAt_memRead (a : Addr) (s : State) :
    transferAt a true .read s =
      (((s.setAddr a).setLines true .read true).setBus (s.mem.read a.toNat)).countTransfer := by
  have h : ¬ 0x7FF < a.toNat := by have := a.isLt; omega
  simp [transferAt, transfer, memRead, h]

/-- A memory write on the bus (20_memory.md R55, R64). -/
theorem transferAt_memWrite (a : Addr) (s : State) :
    transferAt a true .write s =
      (((s.setAddr a).setLines true .write true).setMem (s.mem.write a.toNat s.bus)).countTransfer := by
  have h : ¬ 0x7FF < a.toNat := by have := a.isLt; omega
  simp [transferAt, transfer, memWrite, h]

/-- An I/O read on the bus (20_memory.md R62, R64). -/
theorem transferAt_ioRead (a : Addr) (s : State) :
    transferAt a false .read s =
      (((s.setAddr a).setLines false .read true).setBus (ioRead a s)).countTransfer := rfl

/-- An I/O write on the bus (20_memory.md R62, R64). -/
theorem transferAt_ioWrite (a : Addr) (s : State) :
    transferAt a false .write s = (ioWrite a s.bus ((s.setAddr a).setLines false .write true)).countTransfer := rfl

/-- The canonical form of memory survives every transfer. -/
theorem transferAt_mem_wf (a : Addr) (iom : Bool) (rw : Direction) {s : State} (h : s.mem.wf = true) :
    (transferAt a iom rw s).mem.wf = true := by
  cases iom <;> cases rw
  · rw [transferAt_ioRead]; exact h
  · rw [transferAt_ioWrite]; exact h
  · rw [transferAt_memRead]; exact h
  · rw [transferAt_memWrite]
    exact Memory.write_wf s.bus (by have := a.isLt; omega) h

/-- Everything an ALU command can do: BUS, ACC and the flags for the 11 operations, a diagnostic for any other
(42_alu.md R140, R141, R171). -/
theorem aluCommand_cases (op : Op) (s : State) :
    (∃ b w f, aluCommand op s = ((s.setBus b).setAcc w).setFlags f) ∨
      aluCommand op s = diagInvalidControlSignal (s.setBus s.mbr) := by
  cases op
  case add => exact .inl ⟨_, _, _, rfl⟩
  case sub => exact .inl ⟨_, _, _, rfl⟩
  case mul => exact .inl ⟨_, _, _, rfl⟩
  case and => exact .inl ⟨_, _, _, rfl⟩
  case or => exact .inl ⟨_, _, _, rfl⟩
  case xor => exact .inl ⟨_, _, _, rfl⟩
  case not => exact .inl ⟨_, _, _, rfl⟩
  case shl => exact .inl ⟨_, _, _, rfl⟩
  case shr => exact .inl ⟨_, _, _, rfl⟩
  case wacc => exact .inl ⟨s.mbr, zext16 s.mbr, s.flags, rfl⟩
  case racc => exact .inl ⟨accLow s, s.acc, s.flags, rfl⟩
  all_goals exact .inr rfl

/-- Everything a branch can do (43_control_flow.md R190-R195). -/
theorem branchIf_cases (taken : Bool) (addr : Addr) (s : State) :
    (taken = true ∧ branchIf taken addr s = s.setPc (branchTarget addr)) ∨
      (taken = false ∧ branchIf taken addr s = s) := by
  cases taken
  · exact .inr ⟨rfl, rfl⟩
  · exact .inl ⟨rfl, rfl⟩

/-- A branch target lies in memory (43_control_flow.md R191). -/
theorem branchTarget_le (addr : Addr) : (branchTarget addr).toNat ≤ 0x7FF := by
  have := addr.isLt
  simp only [branchTarget, BitVec.toNat_setWidth]
  omega

end Sys2Proof.Machine
end

