-- ==== Sys2Proof/Laws/Control.lean ====
section
/-! SUPPORT. What the states of the control unit do, and what one state step can answer. -/

namespace Sys2Proof.Machine

/-- The fetch's bus read (40_fetch_decode.md R102, R103). -/
theorem fetchTransfer_eq (s : State) :
    fetchTransfer s =
      (((s.setAddr (pcAddr s.pc)).setLines true .read true).setBus (s.mem.read (pcAddr s.pc).toNat)).countTransfer :=
  transferAt_memRead _ _

/-- PC[10:0] is PC itself while PC lies in memory. -/
theorem pcAddr_toNat {p : Pc} (h : p.toNat ≤ 0x7FF) : (pcAddr p).toNat = p.toNat := by
  simp only [pcAddr, BitVec.extractLsb'_toNat, Nat.shiftRight_zero]
  omega

/-- Everything a state step can answer (40_fetch_decode.md R100, 60_exceptions.md R220). -/
theorem cuStep_cases (c : Config) (s : State) :
    (s.result ≠ .running ∧ cuStep c s = .fault (.runEnded s.result)) ∨
    (s.result = .running ∧ s.cu = .fetchHigh ∧ cuStep c s = .next (cuFetchHigh c s)) ∨
    (s.result = .running ∧ s.cu = .fetchLow ∧ cuStep c s = .next (cuFetchLow s)) ∨
    (s.result = .running ∧ s.cu = .decode ∧ cuStep c s = .next (decodeBody s)) ∨
    (s.result = .running ∧ s.cu = .execute ∧ cuStep c s = cuExecute c s) ∨
    (s.result = .running ∧ s.cu = .terminate ∧ cuStep c s = .fault .terminated) := by
  unfold cuStep
  by_cases h : s.result = .running
  · cases hc : s.cu <;> simp [h]
  · simp [h]

/-- What EXECUTE answers (40_fetch_decode.md R105, R106). -/
theorem cuExecute_cases (c : Config) (s : State) :
    (∃ i, decodeFields c.opcodeMap s.opc s.opr = some i ∧
      ((∃ t, exec i s = .next t ∧ cuExecute c s = .next (afterExecute t)) ∨
       (∃ r, exec i s = .fault r ∧ cuExecute c s = .fault r) ∨
       (∃ r, exec i s = .refused r ∧ cuExecute c s = .refused r))) ∨
    (decodeFields c.opcodeMap s.opc s.opr = none ∧ cuExecute c s = .next (unrecognized c.decodeMode s)) := by
  unfold cuExecute
  cases hd : decodeFields c.opcodeMap s.opc s.opr with
  | none => exact .inr ⟨rfl, rfl⟩
  | some i =>
    refine .inl ⟨i, rfl, ?_⟩
    cases he : exec i s with
    | next t => exact .inl ⟨t, rfl, by simp [he]⟩
    | fault r => exact .inr (.inl ⟨r, rfl, by simp [he]⟩)
    | refused r => exact .inr (.inr ⟨r, rfl, by simp [he]⟩)

/-- The instruction step as its first state step and the rest of the instruction. -/
theorem cuSteps_succ (c : Config) (n : Nat) (s : State) :
    (∃ t, cuStep c s = .next t ∧ atBoundary t = true ∧ cuSteps c (n + 1) s = .next t) ∨
    (∃ t, cuStep c s = .next t ∧ atBoundary t = false ∧ cuSteps c (n + 1) s = cuSteps c n t) ∨
    (∃ r, cuStep c s = .fault r ∧ cuSteps c (n + 1) s = .fault r) ∨
    (∃ r, cuStep c s = .refused r ∧ cuSteps c (n + 1) s = .refused r) := by
  rw [cuSteps]
  cases h : cuStep c s with
  | next t =>
    cases hb : atBoundary t
    · exact .inr (.inl ⟨t, rfl, hb, by simp [hb]⟩)
    · exact .inl ⟨t, rfl, hb, by simp [hb]⟩
  | fault r => exact .inr (.inr (.inl ⟨r, rfl, rfl⟩))
  | refused r => exact .inr (.inr (.inr ⟨r, rfl, rfl⟩))

/-- A property that every state step keeps is kept by an instruction step (40_fetch_decode.md R108). -/
theorem cuSteps_preserves {P : State → Prop} (c : Config)
    (hP : ∀ s t, P s → cuStep c s = .next t → P t) (n : Nat) {s t : State} (hs : P s)
    (h : cuSteps c n s = .next t) : P t := by
  induction n generalizing s with
  | zero => cases h; exact hs
  | succ n ih =>
    obtain ⟨u, hu, -, he⟩ | ⟨u, hu, -, he⟩ | ⟨r, -, he⟩ | ⟨r, -, he⟩ := cuSteps_succ c n s
    · rw [he] at h
      exact hP s t hs (hu.trans (by rw [h]))
    · rw [he] at h; exact ih (hP s u hs hu) h
    · rw [he] at h; cases h
    · rw [he] at h; cases h

/-- The end of a run answers the same fault however many state steps are asked for (60_exceptions.md R220). -/
theorem cuSteps_ended {c : Config} {s : State} (h : s.result ≠ .running) (n : Nat) :
    cuSteps c (n + 1) s = .fault (.runEnded s.result) := by
  simp [cuSteps, cuStep, h]

end Sys2Proof.Machine
end

