-- ==== Sys2Proof/Laws/Decode.lean ====
section
/-! SUPPORT. The decoder's search of the opcode map. -/

namespace Sys2Proof

/-- Every operation is listed. -/
theorem Op.mem_all (o : Op) : o ∈ Op.all := by cases o <;> decide

/-- A well-formed map gives an operation its code and no other one (30_encoding.md R83). -/
theorem OpcodeMap.injective {m : OpcodeMap} (h : m.WellFormed) {o o' : Op} (he : m o = m o') : o = o' :=
  List.inj_on_of_nodup_map h (Op.mem_all o) (Op.mem_all o') he

/-- What the search finds has the code searched for. -/
theorem decodeOp_code {m : OpcodeMap} {code : Opcode} {o : Op} (h : decodeOp m code = some o) : m o = code := by
  have := List.find?_some h
  simpa using this

/-- The search fails only on a code that no operation has (30_encoding.md R86). -/
theorem decodeOp_none {m : OpcodeMap} {code : Opcode} : decodeOp m code = none ↔ ∀ o, m o ≠ code := by
  unfold decodeOp
  rw [List.find?_eq_none]
  constructor
  · intro h o; simpa using h o (Op.mem_all o)
  · intro h o _; simpa using h o

/-- The operation of an instruction made from an operand field. -/
@[simp] theorem Op.withOperand_op (o : Op) (operand : Addr) : (o.withOperand operand).op = o := by
  cases o <;> rfl

end Sys2Proof
end

