-- ==== Sys2Proof/Laws/PerInstr.lean ====
section
/-! SUPPORT. Per-instruction lemmas. Family Fields: the opcode and operand fields of an instruction's word
(spec/30_encoding.md R80, R82, R88), under any opcode map. -/

namespace Sys2Proof.Laws

/-- The two fields of a word built from an opcode and an operand. -/
theorem fields_append (c : Opcode) (a : Addr) :
    opcodeField (c ++ a : Word) = c ∧ operandField (c ++ a : Word) = a := by
  have happ : ∀ i, (c ++ a : Word).getLsbD i = if i < 11 then a.getLsbD i else c.getLsbD (i - 11) := fun i =>
    BitVec.getLsbD_append
  constructor
  · apply BitVec.eq_of_getLsbD_eq
    intro i hi
    rw [opcodeField, BitVec.getLsbD_extractLsb', happ]
    simp [hi]
  · apply BitVec.eq_of_getLsbD_eq
    intro i hi
    rw [operandField, BitVec.getLsbD_extractLsb', happ]
    simp [hi]

end Sys2Proof.Laws

/-- The word of `i` holds the code of its operation in bits 15:11 and its operand field in bits 10:0. -/
def Sys2Proof.Laws.Fields.Statement (i : Sys2Proof.Instr) : Prop :=
  ∀ m : Sys2Proof.OpcodeMap, Sys2Proof.opcodeField (Sys2Proof.encode m i) = m i.op
    ∧ Sys2Proof.operandField (Sys2Proof.encode m i) = i.operand

theorem Sys2Proof.Laws.Fields.wm (addr : Sys2Proof.Addr) : Sys2Proof.Laws.Fields.Statement (.wm addr) :=
  fun m => Sys2Proof.Laws.fields_append (m .wm) _

theorem Sys2Proof.Laws.Fields.rm (addr : Sys2Proof.Addr) : Sys2Proof.Laws.Fields.Statement (.rm addr) :=
  fun m => Sys2Proof.Laws.fields_append (m .rm) _

theorem Sys2Proof.Laws.Fields.br (addr : Sys2Proof.Addr) : Sys2Proof.Laws.Fields.Statement (.br addr) :=
  fun m => Sys2Proof.Laws.fields_append (m .br) _

theorem Sys2Proof.Laws.Fields.rio (addr : Sys2Proof.Addr) : Sys2Proof.Laws.Fields.Statement (.rio addr) :=
  fun m => Sys2Proof.Laws.fields_append (m .rio) _

theorem Sys2Proof.Laws.Fields.wio (addr : Sys2Proof.Addr) : Sys2Proof.Laws.Fields.Statement (.wio addr) :=
  fun m => Sys2Proof.Laws.fields_append (m .wio) _

theorem Sys2Proof.Laws.Fields.brlt (addr : Sys2Proof.Addr) : Sys2Proof.Laws.Fields.Statement (.brlt addr) :=
  fun m => Sys2Proof.Laws.fields_append (m .brlt) _

theorem Sys2Proof.Laws.Fields.brgt (addr : Sys2Proof.Addr) : Sys2Proof.Laws.Fields.Statement (.brgt addr) :=
  fun m => Sys2Proof.Laws.fields_append (m .brgt) _

theorem Sys2Proof.Laws.Fields.brne (addr : Sys2Proof.Addr) : Sys2Proof.Laws.Fields.Statement (.brne addr) :=
  fun m => Sys2Proof.Laws.fields_append (m .brne) _

theorem Sys2Proof.Laws.Fields.bre (addr : Sys2Proof.Addr) : Sys2Proof.Laws.Fields.Statement (.bre addr) :=
  fun m => Sys2Proof.Laws.fields_append (m .bre) _

theorem Sys2Proof.Laws.Fields.wb (imm : Sys2Proof.Byte) : Sys2Proof.Laws.Fields.Statement (.wb imm) :=
  fun m => Sys2Proof.Laws.fields_append (m .wb) _

theorem Sys2Proof.Laws.Fields.wib (imm : Sys2Proof.Byte) : Sys2Proof.Laws.Fields.Statement (.wib imm) :=
  fun m => Sys2Proof.Laws.fields_append (m .wib) _

theorem Sys2Proof.Laws.Fields.wacc : Sys2Proof.Laws.Fields.Statement .wacc :=
  fun m => Sys2Proof.Laws.fields_append (m .wacc) _

theorem Sys2Proof.Laws.Fields.racc : Sys2Proof.Laws.Fields.Statement .racc :=
  fun m => Sys2Proof.Laws.fields_append (m .racc) _

theorem Sys2Proof.Laws.Fields.swap : Sys2Proof.Laws.Fields.Statement .swap :=
  fun m => Sys2Proof.Laws.fields_append (m .swap) _

theorem Sys2Proof.Laws.Fields.shr : Sys2Proof.Laws.Fields.Statement .shr :=
  fun m => Sys2Proof.Laws.fields_append (m .shr) _

theorem Sys2Proof.Laws.Fields.shl : Sys2Proof.Laws.Fields.Statement .shl :=
  fun m => Sys2Proof.Laws.fields_append (m .shl) _

theorem Sys2Proof.Laws.Fields.xor : Sys2Proof.Laws.Fields.Statement .xor :=
  fun m => Sys2Proof.Laws.fields_append (m .xor) _

theorem Sys2Proof.Laws.Fields.not : Sys2Proof.Laws.Fields.Statement .not :=
  fun m => Sys2Proof.Laws.fields_append (m .not) _

theorem Sys2Proof.Laws.Fields.or : Sys2Proof.Laws.Fields.Statement .or :=
  fun m => Sys2Proof.Laws.fields_append (m .or) _

theorem Sys2Proof.Laws.Fields.and : Sys2Proof.Laws.Fields.Statement .and :=
  fun m => Sys2Proof.Laws.fields_append (m .and) _

theorem Sys2Proof.Laws.Fields.mul : Sys2Proof.Laws.Fields.Statement .mul :=
  fun m => Sys2Proof.Laws.fields_append (m .mul) _

theorem Sys2Proof.Laws.Fields.sub : Sys2Proof.Laws.Fields.Statement .sub :=
  fun m => Sys2Proof.Laws.fields_append (m .sub) _

theorem Sys2Proof.Laws.Fields.add : Sys2Proof.Laws.Fields.Statement .add :=
  fun m => Sys2Proof.Laws.fields_append (m .add) _

theorem Sys2Proof.Laws.Fields.eop : Sys2Proof.Laws.Fields.Statement .eop :=
  fun m => Sys2Proof.Laws.fields_append (m .eop) _
end

