-- ==== Sys2Proof/Tests/Slice0.lean ====
section
/-! SUPPORT. Tests: expected values from spec/ (the rule or vector is named with each), and a witness for the hypotheses of
each obligation that has any. -/

open Sys2Proof Sys2Proof.Machine Sys2Proof.Claims

namespace Sys2Proof.Tests

/-! Ill-formed terms, refused (R83, R88, R244) -/

/-- A map that gives ADD the code of SUB. -/
def clashingMap (o : Op) : Opcode := if o = .add then 0x1D#5 else defaultOpcodeMap o

theorem test_clashing_map_is_refused : ¬ OpcodeMap.WellFormed clashingMap := by decide
theorem test_clashing_config_is_refused : ¬ ({ defaultConfig with opcodeMap := clashingMap } : Config).WellFormed := by decide
theorem test_default_config_is_well_formed : defaultConfig.WellFormed := by decide
theorem test_address_operand_out_of_range_is_refused : Op.wm.kind.accepts (some 0x800) = false := by decide
theorem test_address_operand_missing_is_refused : Op.br.kind.accepts none = false := by decide
theorem test_immediate_out_of_range_is_refused : Op.wb.kind.accepts (some 0x100) = false := by decide
theorem test_immediate_missing_is_refused : Op.wib.kind.accepts none = false := by decide
theorem test_operand_of_add_is_refused : Op.add.kind.accepts (some 0) = false := by decide
theorem test_image_outside_memory_is_refused : Image.inRange [(0x7FF, 1#8), (0x800, 1#8)] = false := by decide
theorem test_image_with_an_address_twice_is_refused : Image.isMap [(0, 1#8), (0, 2#8)] = false := by decide

/-! Decoding: one word per instruction, written out from the encoding column of R84 -/

theorem test_decode_wm : decodeTableWord 16 0b00001_10000000000 = some (.wm 0x400#11) := by decide -- V2.1
theorem test_decode_rm : decodeTableWord 16 0b00010_11111111111 = some (.rm 0x7FF#11) := by decide -- V2.3
theorem test_decode_br : decodeTableWord 16 0b00011_00100101010 = some (.br 0x12A#11) := by decide -- R190
theorem test_decode_rio : decodeTableWord 16 0b00100_00000000001 = some (.rio 0x001#11) := by decide -- R123
theorem test_decode_wio : decodeTableWord 16 0b00101_11111100011 = some (.wio 0x7E3#11) := by decide -- V2.7
theorem test_decode_wb : decodeTableWord 16 0b00110_11111111111 = some (.wb 0xFF#8) := by decide -- V2.9: bits 10:8 ignored
theorem test_decode_wib : decodeTableWord 16 0b00111_00000001011 = some (.wib 0x0B#8) := by decide -- V2.10
theorem test_decode_wacc : decodeTableWord 16 0b01001_00000000000 = some .wacc := by decide -- R169
theorem test_decode_racc : decodeTableWord 16 0b01011_00000000001 = some .racc := by decide -- R170, an ignored bit set
theorem test_decode_swap : decodeTableWord 16 0b01110_00000000000 = some .swap := by decide -- R127
theorem test_decode_brlt : decodeTableWord 16 0b10001_00000001110 = some (.brlt 0x00E#11) := by decide -- P6
theorem test_decode_brgt : decodeTableWord 16 0b10010_00001000000 = some (.brgt 0x040#11) := by decide -- R195
theorem test_decode_brne : decodeTableWord 16 0b10011_00000000110 = some (.brne 0x006#11) := by decide -- R193
theorem test_decode_bre : decodeTableWord 16 0b10100_00000001100 = some (.bre 0x00C#11) := by decide -- R192
theorem test_decode_shr : decodeTableWord 16 0b10101_00000000000 = some .shr := by decide -- R168
theorem test_decode_shl : decodeTableWord 16 0b10110_00000000000 = some .shl := by decide -- R167
theorem test_decode_xor : decodeTableWord 16 0b10111_00000000000 = some .xor := by decide -- R165
theorem test_decode_not : decodeTableWord 16 0b11000_00000000000 = some .not := by decide -- R166
theorem test_decode_or : decodeTableWord 16 0b11001_00000000000 = some .or := by decide -- R164
theorem test_decode_and : decodeTableWord 16 0b11010_00000000000 = some .and := by decide -- R163
theorem test_decode_mul : decodeTableWord 16 0b11011_00000000000 = some .mul := by decide -- R162
theorem test_decode_sub : decodeTableWord 16 0b11101_00000000000 = some .sub := by decide -- R161
theorem test_decode_add : decodeTableWord 16 0b11110_10000000000 = some .add := by decide -- R160, an ignored bit set
theorem test_decode_eop : decodeTableWord 16 0b11111_00011111111 = some .eop := by decide -- V5: EOP with operand 0xFF
theorem test_decode_unassigned_zero : decodeTableWord 16 0x0000 = none := by decide -- V3.3
theorem test_decode_unassigned_0C : decodeWord defaultOpcodeMap 0x6123#16 = .error (.unrecognizedOpcode 0x0C#5) := by decide -- V3.5
theorem test_decode_truncated : decodeBytes defaultOpcodeMap [0x30#8] = .error .truncated := by decide

/-! Small states and the fields of an outcome -/

/-- Reset with a word at address 0. -/
def fresh (w : Nat) : State := State.reset.withFetchWord 16 w

/-- An ALU instruction's operands. -/
def operands (acc : Word) (mbr : Byte) : State := { State.reset with acc := acc, mbr := mbr }

/-- ACC and the flags Z C S O after an instruction. -/
def accFlags (o : Host.Outcome State Fault Refusal) : Option (Word × List Bool) :=
  (nextState o).map (fun t => (t.acc, [t.flags.zf, t.flags.cf, t.flags.sf, t.flags.of]))

/-- PC after an instruction. -/
def pcOf (o : Host.Outcome State Fault Refusal) : Option Pc := (nextState o).map (fun t => t.pc)

/-! The ALU family, vectors of 95_test_vectors.md V4 and corner cases of 42_alu.md -/

theorem test_add_acc_high_discarded : accFlags (exec .add (operands 0x1234#16 0x01#8)) = some (0x0035#16, [false, false, false, false]) := by decide
theorem test_add_both_overflows : accFlags (exec .add (operands 0x0080#16 0x80#8)) = some (0x0000#16, [true, true, false, true]) := by decide
theorem test_sub_of_of_the_addition : accFlags (exec .sub (operands 0x0000#16 0x80#8)) = some (0x0080#16, [false, false, true, false]) := by decide
theorem test_sub_zero_gives_no_carry : accFlags (exec .sub (operands 0x0007#16 0x00#8)) = some (0x0007#16, [false, false, false, false]) := by decide
theorem test_mul_inexact : accFlags (exec .mul (operands 0x0080#16 0x80#8)) = some (0xC000#16, [false, true, true, true]) := by decide +kernel
theorem test_mul_negative : accFlags (exec .mul (operands 0x0003#16 0xFE#8)) = some (0xFFFA#16, [false, false, true, false]) := by decide +kernel
theorem test_and_high_cleared : accFlags (exec .and (operands 0x1280#16 0x80#8)) = some (0x0080#16, [false, false, true, false]) := by decide
theorem test_or_sign : accFlags (exec .or (operands 0x00A5#16 0x0F#8)) = some (0x00AF#16, [false, false, true, false]) := by decide
theorem test_xor_zero : accFlags (exec .xor (operands 0x1280#16 0x80#8)) = some (0x0000#16, [true, false, false, false]) := by decide
theorem test_not_eight_bits : accFlags (exec .not (operands 0x1200#16 0x55#8)) = some (0x00FF#16, [false, false, true, false]) := by decide
theorem test_shl_high_discarded : accFlags (exec .shl (operands 0x1234#16 0x00#8)) = some (0x0068#16, [false, false, false, false]) := by decide
theorem test_shl_carry_out : accFlags (exec .shl (operands 0x0081#16 0x00#8)) = some (0x0002#16, [false, true, false, false]) := by decide
theorem test_shr_high_not_shifted_in : accFlags (exec .shr (operands 0x1234#16 0x00#8)) = some (0x001A#16, [false, false, false, false]) := by decide
theorem test_shr_logical : accFlags (exec .shr (operands 0x0081#16 0x00#8)) = some (0x0040#16, [false, true, false, false]) := by decide

/-- V4.1: WACC keeps the flags. -/
theorem test_wacc_keeps_flags :
    accFlags (exec .wacc { operands 0x1234#16 0x80#8 with flags := ⟨true, true, true, true⟩ })
      = some (0x0080#16, [true, true, true, true]) := by decide
/-- V4.2: RACC drives the low byte and copies it to MBR. -/
theorem test_racc_low_byte :
    (nextState (exec .racc (operands 0x1234#16 0x00#8))).map (fun t => (t.bus, t.mbr, t.acc))
      = some (0x34#8, 0x34#8, 0x1234#16) := by decide
/-- W3: Booth's table, an exact and two inexact cells. -/
theorem test_booth_exact : booth 0x7F#8 0x80#8 = 0xC080#16 := by decide +kernel
theorem test_booth_inexact_one : booth 0x80#8 0x01#8 = 0x0080#16 := by decide +kernel
theorem test_booth_inexact_max : booth 0x80#8 0x7F#8 = 0x3F80#16 := by decide +kernel
/-- V4, trace of 3 × −2 after step 2: A = 11111110, Q = 10111111, Q₋₁ = 1. -/
theorem test_booth_trace :
    boothLoop 0x03#8 2 (boothInit 0xFE#8) = ⟨0b11111110#8, 0b10111111#8, true⟩ := by decide +kernel

/-! The memory-access family, vectors V2 and V1 -/

/-- V2.1. -/
theorem test_wm_stores :
    (nextState (exec (.wm 0x400#11) { State.reset with mbr := 0x15#8 })).map
      (fun t => (memRead 0x400 t, t.bus, t.addr, t.rw)) = some (some 0x15#8, 0x15#8, 0x400#11, .write) := by decide
/-- V2.3: the last address of memory. -/
theorem test_rm_loads_top :
    (nextState (exec (.rm 0x7FF#11) { State.reset with mem := [(0x7FF, 0x99#8)] })).map (fun t => (t.mbr, t.iom, t.oe))
      = some (0x99#8, true, true) := by decide
/-- V2.6: index 0x025 & 0x1F = 5. -/
theorem test_rio_low_bits :
    (nextState (exec (.rio 0x025#11) { State.reset with iobuf := State.reset.iobuf.set 5 0x77#8 })).map (fun t => t.iobr)
      = some 0x77#8 := by decide
/-- V2.7: the memory is not accessed. -/
theorem test_wio_low_bits :
    (nextState (exec (.wio 0x7E3#11) { State.reset with iobr := 0x42#8 })).map (fun t => (t.iobuf[3], t.mem, t.iom))
      = some (0x42#8, [], false) := by decide
/-- V2.11. -/
theorem test_swap :
    (nextState (exec .swap { State.reset with mbr := 0x15#8, iobr := 0x0B#8 })).map (fun t => (t.mbr, t.iobr))
      = some (0x0B#8, 0x15#8) := by decide
/-- V2.8, V2.10. -/
theorem test_wb : (nextState (step (fresh 0x3005))).map (fun t => (t.mbr, t.pc)) = some (0x05#8, 0x002#12) := by decide
theorem test_wib : (nextState (step (fresh 0x380B))).map (fun t => (t.iobr, t.pc)) = some (0x0B#8, 0x002#12) := by decide
/-- V1: 0xA5 at 0x123 sets row 9, column 3 of planes 0, 2, 5 and 7 of bank 0. -/
theorem test_planes_after_write :
    (nextState (exec (.wm 0x123#11) { State.reset with mbr := 0xA5#8 })).map
      (fun t => [0, 1, 2, 5, 6, 7].map (fun k => planeWord t.mem 0 k 9))
      = some [0x8#32, 0x0#32, 0x8#32, 0x8#32, 0x0#32, 0x8#32] := by decide
/-- V1: the decomposition at the edges of the banks. -/
theorem test_decomposition_edges :
    [0x01F, 0x3FF, 0x400, 0x7FF].map (fun a => (bankOf a, rowOf a, columnOf a))
      = [(0, 0, 31), (0, 31, 31), (1, 0, 0), (1, 31, 31)] := by decide

/-! Control flow, vectors V5: branches at 0x010, target 0x040 -/

/-- PC = 0x012 in EXECUTE, with flags. -/
def branchState (zf sf : Bool) : State := { State.reset with pc := 0x012#12, flags := ⟨zf, true, sf, true⟩ }

theorem test_br : pcOf (exec (.br 0x7FF#11) (branchState true true)) = some 0x7FF#12 := by decide
theorem test_bre_not_taken : pcOf (exec (.bre 0x040#11) (branchState false true)) = some 0x012#12 := by decide
theorem test_brne_taken : pcOf (exec (.brne 0x040#11) (branchState false true)) = some 0x040#12 := by decide
theorem test_brlt_taken : pcOf (exec (.brlt 0x040#11) (branchState true true)) = some 0x040#12 := by decide
theorem test_brgt_taken : pcOf (exec (.brgt 0x040#11) (branchState false false)) = some 0x040#12 := by decide
theorem test_brgt_not_taken : pcOf (exec (.brgt 0x040#11) (branchState true false)) = some 0x012#12 := by decide
/-- R196: EOP ends the run with PC = p + 2. -/
theorem test_eop : (nextState (step (fresh 0xF8FF))).map (fun t => (t.result, t.cu, t.pc))
    = some (.success, .terminate, 0x002#12) := by decide

/-! Fetch, outcomes, load, report -/

/-- V3.1: after FETCH_HIGH. -/
theorem test_fetch_high :
    (nextState (cuStep defaultConfig (fresh 0x3005))).map (fun t => (t.addr, t.bus, t.ir, t.pc))
      = some (0x000#11, 0x30#8, 0x3000#16, 0x001#12) := by decide
/-- V3.1: after the whole instruction, IR, OPC, OPR, ICOUNT, transfers. -/
theorem test_fetch_word :
    (nextState (step (fresh 0x3005))).map (fun t => (t.ir, t.opc, t.opr, t.icount, t.transfers))
      = some (0x3005#16, 0x06#5, 0x005#11, 1, 2) := by decide
/-- V3.8: high byte at 0x7FF. -/
theorem test_fetch_low_faults :
    (nextState (step { State.reset with pc := 0x7FF#12, mem := [(0x7FF, 0x30#8)] })).map
      (fun t => (t.result, t.faultAddr, t.ir, t.pc, t.icount)) = some (.addressFault, 0x800#12, 0x3000#16, 0x800#12, 0) := by
  decide
/-- V6.4: the word 0x0000 in strict mode. -/
theorem test_strict_invalid :
    (nextState (stepWith { defaultConfig with decodeMode := .strict } State.reset)).map
      (fun t => (t.result, t.pc, t.diag, t.icount)) = some (.invalidOpcode, 0x002#12, 1, 1) := by decide
/-- V3.3, and the record of R214. -/
theorem test_permissive_nop :
    (nextState (step State.reset)).map (fun t => (t.result, t.pc, t.diagLog))
      = some (.running, 0x002#12, [⟨0x000#12, 0x00#5⟩]) := by decide
/-- V3.10: the bound wins over the address fault. -/
theorem test_bound_first :
    (nextState (stepWith { defaultConfig with maxInstr := some 5 } { State.reset with pc := 0x800#12, icount := 5 })).map
      (fun t => t.result) = some .runaway := by decide
/-- R244: words at 0, 2, ..., high byte first. -/
theorem test_words_image :
    wordsImage 0 [0x3005#16, 0xF000#16] = [(0, 0x30#8), (1, 0x05#8), (2, 0xF0#8), (3, 0x00#8)] := by decide
/-- R222: the report of an address fault carries FAULT_ADDR. -/
theorem test_report_address_fault :
    (finalReport { State.reset with result := .addressFault, faultAddr := 0x800#12 }).map Prod.fst
      = some (.addressFault 0x800#12) := by decide
/-- P3 of 95_test_vectors.md, assembled. -/
theorem test_assemble_loop :
    assemble defaultOpcodeMap
        "WB 0x03 ; constant\nWACC\nWB 0x01\nloop: BRE done\nSUB\nBR loop\ndone: EOP".toList
      = .ok [0x3003#16, 0x4800#16, 0x3001#16, 0xA00C#16, 0xE800#16, 0x1806#16, 0xF800#16] := by decide
/-- Log entry 21: a label at the end stands for the address just past the last instruction. -/
theorem test_assemble_label_at_end :
    assemble defaultOpcodeMap "BR fin\nfin:".toList = .ok [0x1802#16] := by decide
/-- R88: an out-of-range operand is refused, not truncated. -/
theorem test_assemble_refuses : assemble defaultOpcodeMap "WB 0x7FF".toList = .error .operandRefused := by decide

/-! Witnesses: a concrete case of each obligation's hypotheses, at the edges where its clauses meet -/

/-- Strict mode. -/
def strictConfig : Config := { defaultConfig with decodeMode := .strict }
/-- A bound of 5 instructions. -/
def boundConfig : Config := { defaultConfig with maxInstr := some 5 }
/-- Reset with the control unit in a given state, and PC. -/
def atCu (c : CuState) (pc : Pc) : State := { State.reset with cu := c, pc := pc }

theorem below_default (s : State) : BelowBound defaultConfig s := fun _ h => nomatch h
theorem below_strict (s : State) : BelowBound strictConfig s := fun _ h => nomatch h

theorem witness_fetchReady (w : Nat) : FetchReady defaultConfig (fresh w) :=
  ⟨rfl, rfl, below_default _, by simp [fresh, State.withFetchWord, placeWord, placeByte, memWrite, State.reset, State.resetWith]⟩

theorem witness_DecodeReadsBackEncode : defaultOpcodeMap.WellFormed := by decide
theorem witness_DecodedFieldsAreTheWords_address :
    decodeWord defaultOpcodeMap 0x0FFF#16 = .ok (.wm 0x7FF#11) ∧ (Instr.wm 0x7FF#11).op.kind = .address := by decide
theorem witness_DecodedFieldsAreTheWords_immediate :
    decodeWord defaultOpcodeMap 0x37FF#16 = .ok (.wb 0xFF#8) ∧ (Instr.wb 0xFF#8).op.kind = .immediate := by decide
theorem witness_DecodedFieldsAreTheWords_absent :
    decodeWord defaultOpcodeMap 0xF7FF#16 = .ok .add ∧ Instr.add.op.kind = .absent := by decide
theorem witness_EveryOperandValueDecodes :
    defaultOpcodeMap.WellFormed ∧ Op.add.kind = .absent ∧ Op.wb.kind = .immediate
      ∧ (0x1FF#11).extractLsb' 0 8 = (0x0FF#11).extractLsb' 0 8 := by decide
theorem witness_EveryOperandValueDecodes_unassigned : Unassigned defaultOpcodeMap ((0x0000#16).extractLsb' 11 5) := by
  intro o; cases o <;> decide
theorem witness_EightCodesAreUnassigned : defaultOpcodeMap.WellFormed := by decide
theorem witness_AssembledWordIsTheInstruction :
    assembleInstr defaultOpcodeMap .br (some 0x7FF) = .ok 0x1FFF#16
      ∧ assembleInstr defaultOpcodeMap .wb (some 0xFF) = .ok 0x30FF#16
      ∧ assembleInstr defaultOpcodeMap .add none = .ok 0xF000#16
      ∧ assembleInstr defaultOpcodeMap .br (some 0x800) = .error .operandRefused
      ∧ assembleInstr defaultOpcodeMap .wb (some 0x100) = .error .operandRefused := by decide
theorem witness_LoaderWritesTheImage :
    MemCanonical State.reset ∧ Image.inRange [(0x7FF, 1#8), (0, 2#8)] = true ∧ Image.isMap [(0x7FF, 1#8), (0, 2#8)] = true
      ∧ Image.inRange [(0, 2#8), (0x800, 1#8)] = false := by
  refine ⟨rfl, ?_⟩; decide
theorem witness_FetchStatesAssembleTheWord :
    (atCu .fetchHigh 0x7FF#12).result = .running ∧ (atCu .fetchHigh 0x7FF#12).pc.toNat ≤ 0x7FF
      ∧ (atCu .fetchHigh 0x7FF#12).cu = .fetchHigh ∧ BelowBound defaultConfig (atCu .fetchHigh 0x7FF#12)
      ∧ (atCu .fetchLow 0x7FF#12).result = .running ∧ (atCu .fetchLow 0x7FF#12).cu = .fetchLow :=
  ⟨rfl, by decide, rfl, below_default _, rfl, rfl⟩
theorem witness_DecodeLatchesTheFields :
    (atCu .decode 0x002#12).result = .running ∧ (atCu .decode 0x002#12).cu = .decode := by decide
theorem witness_InstructionStepIsTheStateSteps :
    (atCu .fetchHigh 0x7FE#12).result = .running ∧ (atCu .fetchHigh 0x7FE#12).cu = .fetchHigh
      ∧ BelowBound defaultConfig (atCu .fetchHigh 0x7FE#12) ∧ (atCu .fetchHigh 0x7FE#12).pc.toNat ≤ 0x7FE
      ∧ (atCu .fetchHigh 0x7FF#12).pc.toNat = 0x7FF ∧ 0x7FF < (atCu .fetchHigh 0x800#12).pc.toNat
      ∧ ¬ BelowBound boundConfig { atCu .fetchHigh 0x000#12 with icount := 5 } :=
  ⟨rfl, rfl, below_default _, by decide, by decide, by decide, fun h => absurd (h 5 rfl) (by decide)⟩
theorem witness_StepRunsTheDecodedInstruction :
    FetchReady defaultConfig (fresh 0x3005)
      ∧ decodeBytes defaultOpcodeMap [(fresh 0x3005).mem.read 0, (fresh 0x3005).mem.read 1] = .ok (.wb 0x05#8, []) :=
  ⟨witness_fetchReady _, by decide⟩
theorem witness_UnrecognizedOpcodeByMode :
    (atCu .execute 0x002#12).result = .running ∧ (atCu .execute 0x002#12).cu = .execute
      ∧ Unassigned defaultOpcodeMap (atCu .execute 0x002#12).opc
      ∧ defaultConfig.decodeMode = .permissive ∧ strictConfig.decodeMode = .strict :=
  ⟨rfl, rfl, by intro o; cases o <;> decide, rfl, rfl⟩
/-- A step that ends `running`, and one that ends `success`. -/
theorem witness_PcAccountingPerInstruction :
    (fresh 0x3005).cu = .fetchHigh ∧ (nextState (stepWith defaultConfig (fresh 0x3005))).map (fun t => t.result) = some .running
      ∧ (nextState (stepWith defaultConfig (fresh 0xF800))).map (fun t => t.result) = some .success := by decide
theorem witness_TransfersPerInstruction :
    (fresh 0x0C00).cu = .fetchHigh
      ∧ (nextState (stepWith defaultConfig (fresh 0x0C00))).map (fun t => (t.result, t.transfers)) = some (.running, 3)
      ∧ (nextState (stepWith defaultConfig (fresh 0xF800))).map (fun t => (t.result, t.transfers)) = some (.success, 2) := by
  decide
theorem witness_TraceRecordHoldsTheFields :
    (nextState (stepWith defaultConfig (fresh 0x3005))).map (fun t => t.result) = some .running
      ∧ (nextState (stepWith defaultConfig (fresh 0xF800))).map (fun t => t.result) = some .success := by decide
theorem witness_EveryRunningStateSteps : State.reset.result = .running ∧ State.reset.cu ≠ .terminate := by decide
theorem witness_FetchPastMemoryRaisesAddressFault :
    (atCu .fetchHigh 0x800#12).result = .running ∧ 0x7FF < (atCu .fetchHigh 0x800#12).pc.toNat
      ∧ (atCu .fetchHigh 0x800#12).cu = .fetchHigh ∧ BelowBound defaultConfig (atCu .fetchHigh 0x800#12)
      ∧ 0x7FF < (atCu .fetchLow 0x800#12).pc.toNat ∧ (atCu .fetchLow 0x800#12).cu = .fetchLow :=
  ⟨rfl, by decide, rfl, below_default _, by decide, rfl⟩
theorem witness_HostBoundEndsTheRunFirst :
    boundConfig.maxInstr = some 5 ∧ 5 ≤ ({ atCu .fetchHigh 0x800#12 with icount := 5 } : State).icount
      ∧ defaultConfig.maxInstr = none ∧ (nextState (stepWith defaultConfig State.reset)).isSome = true := by decide
theorem witness_DiagnosticIsNonFatal :
    FetchReady defaultConfig (fresh 0x0000) ∧ defaultConfig.decodeMode = .permissive
      ∧ Unassigned defaultOpcodeMap ((wordAt (fresh 0x0000) 0).extractLsb' 11 5) :=
  ⟨witness_fetchReady _, rfl, by intro o; cases o <;> decide⟩
theorem witness_EachOutcomeHasItsCause :
    (nextState (cuStep defaultConfig { atCu .execute 0x002#12 with opc := 0x1F#5 })).map (fun t => t.result) = some .success
      ∧ (nextState (cuStep defaultConfig (atCu .fetchLow 0x800#12))).map (fun t => t.result) = some .addressFault
      ∧ (nextState (cuStep boundConfig { State.reset with icount := 5 })).map (fun t => t.result) = some .runaway
      ∧ (nextState (cuStep strictConfig (atCu .execute 0x002#12))).map (fun t => t.result) = some .invalidOpcode := by decide
theorem witness_EndedRunIsFrozen :
    ({ State.reset with result := .success } : State).result ≠ .running
      ∧ FaultState { State.reset with result := .addressFault } ∧ FaultState { State.reset with result := .runaway }
      ∧ FaultState { State.reset with result := .invalidOpcode } :=
  ⟨by decide, .inl rfl, .inr (.inl rfl), .inr (.inr rfl)⟩
theorem witness_FatalErrorsArePrecise :
    (atCu .fetchHigh 0x800#12).pc = 0x800#12 ∧ (atCu .fetchHigh 0x7FF#12).pc = 0x7FF#12
      ∧ (atCu .fetchHigh 0x7FE#12).pc.toNat ≤ 0x7FE ∧ strictConfig.decodeMode = .strict
      ∧ BelowBound strictConfig (atCu .fetchHigh 0x7FE#12)
      ∧ Unassigned defaultOpcodeMap ((wordAt (atCu .fetchHigh 0x7FE#12) 0x7FE).extractLsb' 11 5) :=
  ⟨rfl, rfl, by decide, rfl, below_strict _, by intro o; cases o <;> decide⟩
theorem witness_FinalReportTellsTheOutcome :
    finalReport State.reset = none ∧ (finalReport { State.reset with result := .success }).map Prod.fst = some .success
      ∧ (finalReport { State.reset with result := .runaway }).map Prod.fst = some .runaway
      ∧ (finalReport { State.reset with result := .invalidOpcode }).map Prod.fst = some .invalidOpcode := by decide
theorem witness_InvariantHoldsAtReset : ResetParams.examples.mem0.wf = true := rfl
/-- The invariant's parts at reset, and a step from there. -/
theorem witness_EveryStepKeepsTheInvariant :
    Inv State.reset ∧ (nextState (step State.reset)).isSome = true ∧ (nextState (cuStep defaultConfig State.reset)).isSome = true := by
  refine ⟨?_, by decide, by decide⟩
  constructor <;> simp [MemCanonical, PcInRange, PcPastFetched, IrLowClear, LatchesHoldIr, TerminateIsSuccess, FaultPlace,
    FaultAddrUnset, DiagCounts, TransferCounts, transfersUnderWay, State.reset, State.resetWith, ResetParams.examples, Memory.wf,
    Memory.wfFrom]
theorem witness_EveryRunKeepsTheInvariant :
    ResetParams.examples.mem0.wf = true ∧ (boot ResetParams.examples [(0, 0xF8#8)]).toOption.isSome = true := by decide
theorem witness_MemoryRoundTripAndIsolation :
    MemCanonical State.reset ∧ (memWrite 0x7FF 0xA5#8 State.reset).isSome = true ∧ memRead 0x800 State.reset = none :=
  ⟨rfl, by decide, by decide⟩
theorem witness_CanonicalMemoryIsDetermined : Memory.wf [(0, 1#8), (0x7FF, 2#8)] = true := by decide
theorem witness_AddressDecompositionIsBijective :
    (0x3FF ≤ 0x7FF ∧ bankOf 0x3FF = 0 ∧ bankOf 0x400 = 1) ∧ (1 < 2 ∧ 31 < 32 ∧ composeAddr 1 31 31 = 0x7FF) := by decide
theorem witness_IoBufferUsesTheLowFiveBits : (0x7FF#11).toNat % 32 < 32 ∧ (0x7FF#11).toNat % 32 = (0x01F#11).toNat % 32 := by
  decide
theorem witness_RioAndWioMoveIobr : (0x7FF#11).toNat % 32 < 32 := by decide
theorem witness_ReadIsTheReconstructionFromPlanes :
    readPlanes (planeWord [(0x7FF, 0xA5#8)]) 0x7FF = 0xA5#8 := by decide
theorem witness_WriteChangesOneBitPerPlane :
    MemCanonical State.reset ∧ (memWrite 0x7FF 0xA5#8 State.reset).isSome = true := ⟨rfl, by decide⟩
theorem witness_TransferByTheControlLines :
    State.reset.oe = false
      ∧ (State.reset.setLines true .read true).oe = true ∧ (State.reset.setLines true .read true).iom = true
      ∧ (State.reset.setLines true .write true).rw = .write ∧ (State.reset.setLines false .read true).iom = false
      ∧ (State.reset.setLines false .write true).rw = .write := by decide
theorem witness_StoreIsSeenByTheNextFetch :
    MemCanonical (atCu .execute 0x002#12) ∧ (atCu .execute 0x002#12).result = .running
      ∧ BelowBound defaultConfig (atCu .execute 0x002#12)
      ∧ MemCanonical (fresh 0x0802) ∧ FetchReady defaultConfig (fresh 0x0802)
      ∧ decodeWord defaultOpcodeMap (wordAt (fresh 0x0802) 0) = .ok (.wm 0x002#11) :=
  ⟨rfl, rfl, below_default _, by unfold MemCanonical; decide, witness_fetchReady _, by decide⟩
/-- R120: WM into the next instruction's high byte: MBR = 0xF8 at address 2 makes the next instruction EOP. -/
theorem test_store_into_next_instruction :
    (nextState (step { fresh 0x0802 with mbr := 0xF8#8 })).bind (fun t => (nextState (step t)).map (fun u => u.result))
      = some .success := by decide
theorem witness_WmStoresMbr : MemCanonical State.reset := rfl
theorem witness_BoothProductIsExactButForOneMultiplicand :
    booth 0x81#8 0x80#8 = BitVec.ofInt 16 ((0x81#8).toInt * (0x80#8).toInt) ∧ booth 0x80#8 0x00#8 = 0x0000#16
      ∧ booth 0x80#8 0xFF#8 = BitVec.ofInt 16 (128 * (0xFF#8).toInt) := by decide +kernel
theorem witness_UnknownAluOpIsADiagnostic :
    Op.eop ∉ [Op.add, .sub, .mul, .and, .or, .xor, .not, .shl, .shr, .wacc, .racc]
      ∧ (nextState (exec .add State.reset)).isSome = true := by decide
theorem witness_BranchesAfterSubCompare :
    (operands 0x0003#16 0x05#8).mbr ≠ 0x80#8
      ∧ (nextState (exec .sub (operands 0x0003#16 0x05#8))).map (fun t => t.flags.of) = some false := by decide
theorem witness_EopEndsTheRun :
    FetchReady defaultConfig (fresh 0xF800) ∧ decodeWord defaultOpcodeMap (wordAt (fresh 0xF800) 0) = .ok .eop
      ∧ State.reset.result ≠ .success
      ∧ (nextState (exec .eop State.reset)).map (fun t => t.result) = some .success :=
  ⟨witness_fetchReady _, by decide, by decide, by decide⟩
theorem witness_AccAndFlagsHaveTheirWriters :
    (Instr.wm 0#11).op ∉ accWriters ∧ (Instr.wm 0#11).op ≠ .racc ∧ Instr.wacc.op ∉ flagWriters
      ∧ (nextState (exec (.wm 0#11) State.reset)).isSome = true ∧ (nextState (exec .wacc State.reset)).isSome = true := by decide
theorem witness_RegistersHaveTheirWriters :
    Instr.add.op ∉ [Op.rm, .wb, .swap, .racc] ∧ Instr.add.op ∉ [Op.rio, .wib, .swap] ∧ Instr.add.op ∉ [Op.wm, .rm, .rio, .wio]
      ∧ Instr.add.op ≠ .wm ∧ Instr.add.op ≠ .wio ∧ Instr.add.op ∉ [Op.br, .bre, .brne, .brlt, .brgt] ∧ Instr.add.op ≠ .eop
      ∧ (nextState (exec .add State.reset)).isSome = true := by decide
theorem witness_LatchesAreWrittenBeforeTheyAreRead : FetchReady defaultConfig (fresh 0x0C00) := witness_fetchReady _
theorem witness_AccHighByteIsUnobservable : SameButAccHigh (operands 0x0034#16 0x01#8) (operands 0x1234#16 0x01#8) :=
  ⟨rfl, by decide⟩
theorem witness_CarryAndOverflowSteerNothing :
    SameButCarryOverflow State.reset { State.reset with flags := ⟨false, true, false, true⟩ } := ⟨rfl, rfl, rfl⟩
theorem witness_BookkeepingSteersNothing :
    defaultConfig.maxInstr = none
      ∧ SameButBookkeeping State.reset { State.reset with diag := 7, icount := 9, faultAddr := 0x800#12, transfers := 3 } :=
  ⟨rfl, rfl⟩

end Sys2Proof.Tests
end

section
/-! The rules of execution, for the statements about the state (spec/10_state.md): what an instruction leaves as plain
updates of the state, and what the states of the control unit leave. -/

namespace Sys2Proof.Machine

/-- The state that an instruction leaves, in plain updates: transfers with their address in memory, branches as one update of
PC. `exec_eq` ties it to `exec`. -/
def executed (i : Instr) (s : State) : State :=
  match i with
  | .wm a =>
    ((((s.setBus s.mbr).setAddr a).setLines true .write true).setMem (s.mem.write a.toNat s.mbr)).countTransfer
  | .rm a =>
    ((((s.setAddr a).setLines true .read true).setBus (s.mem.read a.toNat)).countTransfer).setMbr (s.mem.read a.toNat)
  | .rio a => ((((s.setAddr a).setLines false .read true).setBus (ioRead a s)).countTransfer).setIobr (ioRead a s)
  | .wio a =>
    ((((s.setBus s.iobr).setAddr a).setLines false .write true).setIobuf
      (s.iobuf.set (ioIndex a).toNat s.iobr (ioIndex a).isLt)).countTransfer
  | .wb v => s.setMbr v
  | .wib v => s.setIobr v
  | .swap => (s.setMbr s.iobr).setIobr s.mbr
  | .wacc => (s.setBus s.mbr).setAcc (zext16 s.mbr)
  | .racc => (s.setBus (accLow s)).setMbr (accLow s)
  | .br a => s.setPc (branchTarget a)
  | .bre a => s.setPc (if s.flags.zf then branchTarget a else s.pc)
  | .brne a => s.setPc (if !s.flags.zf then branchTarget a else s.pc)
  | .brlt a => s.setPc (if s.flags.sf then branchTarget a else s.pc)
  | .brgt a => s.setPc (if !s.flags.sf && !s.flags.zf then branchTarget a else s.pc)
  | .add => ((s.setBus s.mbr).setAcc (zext16 (add8 (accLow s) s.mbr))).setFlags (add8Flags (accLow s) s.mbr)
  | .sub =>
    ((s.setBus s.mbr).setAcc (zext16 (add8 (accLow s) (twosComplement8 s.mbr)))).setFlags
      (add8Flags (accLow s) (twosComplement8 s.mbr))
  | .mul => ((s.setBus s.mbr).setAcc (booth (accLow s) s.mbr)).setFlags (productFlags (booth (accLow s) s.mbr))
  | .and => ((s.setBus s.mbr).setAcc (zext16 (accLow s &&& s.mbr))).setFlags (logicFlags (accLow s &&& s.mbr))
  | .or => ((s.setBus s.mbr).setAcc (zext16 (accLow s ||| s.mbr))).setFlags (logicFlags (accLow s ||| s.mbr))
  | .xor => ((s.setBus s.mbr).setAcc (zext16 (accLow s ^^^ s.mbr))).setFlags (logicFlags (accLow s ^^^ s.mbr))
  | .not => ((s.setBus s.mbr).setAcc (zext16 (~~~accLow s))).setFlags (logicFlags (~~~accLow s))
  | .shl => ((s.setBus s.mbr).setAcc (zext16 (accLow s <<< 1))).setFlags (shiftFlags ((accLow s).getLsbD 7) (accLow s <<< 1))
  | .shr => ((s.setBus s.mbr).setAcc (zext16 (accLow s >>> 1))).setFlags (shiftFlags ((accLow s).getLsbD 0) (accLow s >>> 1))
  | .eop => (s.setResult .success).setCu .terminate

/-- A branch is one update of PC (43_control_flow.md R190-R195). -/
theorem branchIf_eq (taken : Bool) (a : Addr) (s : State) :
    branchIf taken a s = s.setPc (if taken then branchTarget a else s.pc) := by
  cases taken <;> rfl

/-- Every instruction answers a next state, the one of `executed`. -/
theorem exec_eq (i : Instr) (s : State) : exec i s = .next (executed i s) := by
  cases i with
  | wm a => exact congrArg _ (transferAt_memWrite a (s.setBus s.mbr))
  | rm a => simp only [exec, execRm, transferAt_memRead]; rfl
  | bre a | brne a | brlt a | brgt a => exact congrArg _ (branchIf_eq _ a s)
  | _ => rfl

theorem exec_next_iff {i : Instr} {s t : State} : exec i s = .next t ↔ executed i s = t := by
  rw [exec_eq, Host.Outcome.next.injEq]

section Frame
variable (i : Instr) (s : State)

@[simp] theorem executed_ir : (executed i s).ir = s.ir := by cases i <;> simp [executed]
@[simp] theorem executed_opc : (executed i s).opc = s.opc := by cases i <;> simp [executed]
@[simp] theorem executed_opr : (executed i s).opr = s.opr := by cases i <;> simp [executed]
@[simp] theorem executed_icount : (executed i s).icount = s.icount := by cases i <;> simp [executed]
@[simp] theorem executed_faultAddr : (executed i s).faultAddr = s.faultAddr := by cases i <;> simp [executed]
@[simp] theorem executed_diag : (executed i s).diag = s.diag := by cases i <;> simp [executed]
@[simp] theorem executed_diagLog : (executed i s).diagLog = s.diagLog := by cases i <;> simp [executed]

variable {i}

theorem executed_mbr (h : i.op ∉ [Op.rm, .wb, .swap, .racc]) : (executed i s).mbr = s.mbr := by
  cases i with
  | rm | wb | swap | racc => simp [Instr.op] at h
  | _ => simp [executed]

theorem executed_iobr (h : i.op ∉ [Op.rio, .wib, .swap]) : (executed i s).iobr = s.iobr := by
  cases i with
  | rio | wib | swap => simp [Instr.op] at h
  | _ => simp [executed]

/-- Only a bus transfer drives ADDR and the control lines (10_state.md R30, R32). -/
theorem executed_lines (h : i.op ∉ [Op.wm, .rm, .rio, .wio]) :
    (executed i s).addr = s.addr ∧ (executed i s).iom = s.iom ∧ (executed i s).rw = s.rw ∧ (executed i s).oe = s.oe
      ∧ (executed i s).transfers = s.transfers := by
  cases i with
  | wm | rm | rio | wio => simp [Instr.op] at h
  | _ => simp [executed]

theorem executed_mem (h : i.op ≠ .wm) : (executed i s).mem = s.mem := by
  cases i with
  | wm => exact absurd rfl h
  | _ => simp [executed]

theorem executed_iobuf (h : i.op ≠ .wio) : (executed i s).iobuf = s.iobuf := by
  cases i with
  | wio => exact absurd rfl h
  | _ => simp [executed]

theorem executed_pc (h : i.op ∉ [Op.br, .bre, .brne, .brlt, .brgt]) : (executed i s).pc = s.pc := by
  cases i with
  | br | bre | brne | brlt | brgt => simp [Instr.op] at h
  | _ => simp [executed]

/-- Only EOP ends the run (43_control_flow.md R196). -/
theorem executed_result (h : i.op ≠ .eop) : (executed i s).result = s.result := by
  cases i with
  | eop => exact absurd rfl h
  | _ => simp [executed]

/-- Only EOP moves the control unit (43_control_flow.md R196). -/
theorem executed_cu (h : i.op ≠ .eop) : (executed i s).cu = s.cu := by
  cases i with
  | eop => exact absurd rfl h
  | _ => simp [executed]

theorem executed_acc (h : i.op ∉ Claims.accWriters) : (executed i s).acc = s.acc := by
  cases i with
  | add | sub | mul | and | or | xor | not | shl | shr | wacc => simp [Instr.op, Claims.accWriters] at h
  | _ => simp [executed]

theorem executed_flags (h : i.op ∉ Claims.flagWriters) : (executed i s).flags = s.flags := by
  cases i with
  | add | sub | mul | and | or | xor | not | shl | shr => simp [Instr.op, Claims.flagWriters] at h
  | _ => simp [executed]

end Frame

/-- The instructions that neither write nor read ACC do the same whatever it holds (10_state.md R21). -/
theorem executed_withAcc {i : Instr} (s : State) (v : Word) (h : i.op ∉ Claims.accWriters) (hr : i.op ≠ .racc) :
    executed i { s with acc := v } = { executed i s with acc := v } := by
  cases i with
  | add | sub | mul | and | or | xor | not | shl | shr | wacc => simp [Instr.op, Claims.accWriters] at h
  | racc => exact absurd rfl hr
  | _ => rfl

/-- The bytes of memory stay in canonical form. -/
theorem executed_mem_wf (i : Instr) {s : State} (h : s.mem.wf = true) : (executed i s).mem.wf = true := by
  by_cases hi : i.op = .wm
  · cases i with
    | wm a => exact Memory.write_wf s.mbr (by have := a.isLt; omega) h
    | _ => cases hi
  · rwa [executed_mem s hi]

/-- An instruction makes at most one transfer in EXECUTE (40_fetch_decode.md R110). -/
theorem executed_transfers (i : Instr) (s : State) :
    s.transfers ≤ (executed i s).transfers ∧ (executed i s).transfers ≤ s.transfers + 1 := by
  cases i <;> simp [executed]

/-- An instruction leaves PC or branches into memory (43_control_flow.md R191). -/
theorem executed_pc_le (i : Instr) {s : State} (h : s.pc.toNat ≤ 0x800) : (executed i s).pc.toNat ≤ 0x800 := by
  have branch (taken : Bool) (a : Addr) : (if taken then branchTarget a else s.pc).toNat ≤ 0x800 := by
    split
    · exact (branchTarget_le a).trans (by decide)
    · exact h
  cases i with
  | br a => exact branch true a
  | bre a | brne a | brlt a | brgt a => simpa only [executed, State.setPc_pc] using branch _ a
  | _ => simpa [executed] using h

/-- FETCH_HIGH in plain updates of the state before it (40_fetch_decode.md R102). -/
theorem fetchHighBody_eq (s : State) :
    fetchHighBody s =
      ((((((s.setAddr (pcAddr s.pc)).setLines true .read true).setBus (s.mem.read (pcAddr s.pc).toNat)).countTransfer).setIr
        (s.mem.read (pcAddr s.pc).toNat ++ 0x00#8)).setPc (s.pc + 1#12)).setCu .fetchLow := by
  rw [fetchHighBody, fetchTransfer_eq, State.countTransfer_bus, State.setBus_bus]

/-- FETCH_LOW in plain updates of the state before it (40_fetch_decode.md R103). -/
theorem fetchLowBody_eq (s : State) :
    fetchLowBody s =
      ((((((s.setAddr (pcAddr s.pc)).setLines true .read true).setBus (s.mem.read (pcAddr s.pc).toNat)).countTransfer).setIr
        (s.ir ||| (s.mem.read (pcAddr s.pc).toNat).setWidth 16)).setPc (s.pc + 1#12)).setCu .decode := by
  rw [fetchLowBody, fetchTransfer_eq, State.countTransfer_bus, State.setBus_bus]

/-- EXECUTE of the instruction that the latches hold (40_fetch_decode.md R105). -/
theorem cuExecute_some {c : Config} {s : State} {i : Instr} (h : decodeFields c.opcodeMap s.opc s.opr = some i) :
    cuExecute c s = .next (afterExecute (executed i s)) := by
  simp only [cuExecute, h, exec_eq]

/-- EXECUTE of an unassigned code (40_fetch_decode.md R106). -/
theorem cuExecute_none {c : Config} {s : State} (h : decodeFields c.opcodeMap s.opc s.opr = none) :
    cuExecute c s = .next (unrecognized c.decodeMode s) := by
  simp only [cuExecute, h]

/-- After EOP the control unit stays in TERMINATE (40_fetch_decode.md R107). -/
theorem afterExecute_eop (s : State) : afterExecute (executed .eop s) = executed .eop s := if_pos (.inl rfl)

/-- After any other instruction of a run that goes on, FETCH_HIGH is next (40_fetch_decode.md R107). -/
theorem afterExecute_executed {i : Instr} {s : State} (hi : i.op ≠ .eop) (hr : s.result = .running)
    (hc : s.cu = .execute) : afterExecute (executed i s) = (executed i s).setCu .fetchHigh := by
  simp [afterExecute, executed_result s hi, executed_cu s hi, hr, hc]

end Sys2Proof.Machine
end

section
/-! The machine's invariant: at reset, and kept by every state step and every instruction step. -/

namespace Sys2Proof.Machine

/-- The high byte that FETCH_HIGH puts in IR leaves the low byte clear (40_fetch_decode.md R102). -/
theorem extractLsb'_append_zero (b : Byte) : (b ++ 0x00#8 : Word).extractLsb' 0 8 = 0x00#8 := by
  apply BitVec.eq_of_getLsbD_eq
  intro i hi
  rw [BitVec.getLsbD_extractLsb', BitVec.getLsbD_append]
  simp [hi]

/-- A PC below the end of memory does not wrap (10_state.md R28). -/
theorem pc_succ_toNat {p : Pc} (h : p.toNat ≤ 0x7FF) : (p + 1#12).toNat = p.toNat + 1 := by
  rw [BitVec.toNat_add]
  simp only [BitVec.toNat_ofNat]
  omega

section
variable {s : State}

theorem Inv.faultAddr_of_running (h : Inv s) (hr : s.result = .running) : s.faultAddr = 0x000#12 :=
  h.faultAddrUnset (by simp [hr])

theorem Inv.diag_of_running (h : Inv s) (hr : s.result = .running) : s.diag = s.diagLog.length ∧ s.diag ≤ s.icount := by
  obtain ⟨hd, hi, -⟩ := h.diagCounts
  simp only [hr, reduceCtorEq, if_false, Nat.add_zero] at hd
  exact ⟨hd, hi⟩

/-- The invariant of a running state before FETCH_HIGH: no clause about an instruction under way applies. -/
theorem Inv.of_fetchHigh (hr : s.result = .running) (hc : s.cu = .fetchHigh) (hm : MemCanonical s) (hp : PcInRange s)
    (hf : s.faultAddr = 0x000#12) (hd : s.diag = s.diagLog.length ∧ s.diag ≤ s.icount)
    (ht : 2 * s.icount ≤ s.transfers ∧ s.transfers ≤ 3 * s.icount) : Inv s where
  memCanonical := hm
  pcInRange := hp
  pcPastFetched := by simp [PcPastFetched, hc]
  irLowClear := by simp [IrLowClear, hc]
  latchesHoldIr := by simp [LatchesHoldIr, hc]
  terminateIsSuccess := by simp [TerminateIsSuccess, hc, hr]
  faultPlace := by simp [FaultPlace, hr]
  faultAddrUnset := fun _ => hf
  diagCounts := by simpa [DiagCounts, hc, hr] using hd
  transferCounts := by simpa [TransferCounts, transfersUnderWay, hc] using ht

/-- The host bound keeps the invariant (60_exceptions.md R218). -/
theorem Inv.after_runaway (h : Inv s) (hr : s.result = .running) (hc : s.cu = .fetchHigh) : Inv (s.setResult .runaway) where
  memCanonical := h.memCanonical
  pcInRange := h.pcInRange
  pcPastFetched := h.pcPastFetched
  irLowClear := h.irLowClear
  latchesHoldIr := h.latchesHoldIr
  terminateIsSuccess := by simp [TerminateIsSuccess, hc]
  faultPlace := by simp [FaultPlace, hc]
  faultAddrUnset := fun _ => h.faultAddr_of_running hr
  diagCounts := by simpa [DiagCounts, hc] using h.diag_of_running hr
  transferCounts := h.transferCounts

/-- The address fault keeps the invariant: the only PC outside memory is 0x800 (10_state.md R28, 60_exceptions.md R212). -/
theorem Inv.after_addressFault (h : Inv s) (hr : s.result = .running) (hc : s.cu = .fetchHigh ∨ s.cu = .fetchLow)
    (hp : 0x7FF < s.pc.toNat) : Inv (raiseAddressOutOfRange s.pc.toNat s) := by
  have hpc : s.pc = 0x800#12 := BitVec.eq_of_toNat_eq (Nat.le_antisymm h.pcInRange hp)
  have hne : s.cu ≠ .terminate ∧ s.cu ≠ .execute := by
    rcases hc with hc | hc <;> simp [hc]
  exact {
    memCanonical := h.memCanonical
    pcInRange := h.pcInRange
    pcPastFetched := h.pcPastFetched
    irLowClear := h.irLowClear
    latchesHoldIr := h.latchesHoldIr
    terminateIsSuccess := by simp [TerminateIsSuccess, raiseAddressOutOfRange, hne]
    faultPlace := by simp [FaultPlace, raiseAddressOutOfRange, hc, hpc]
    faultAddrUnset := by simp [FaultAddrUnset, raiseAddressOutOfRange]
    diagCounts := by simpa [DiagCounts, raiseAddressOutOfRange, hne] using h.diag_of_running hr
    transferCounts := h.transferCounts }

/-- FETCH_HIGH keeps the invariant (40_fetch_decode.md R102). -/
theorem Inv.after_fetchHighBody (h : Inv s) (hr : s.result = .running) (hc : s.cu = .fetchHigh) (hp : s.pc.toNat ≤ 0x7FF) :
    Inv (fetchHighBody s) := by
  obtain ⟨hlo, hhi, -⟩ := h.transferCounts
  simp only [hc, transfersUnderWay] at hlo hhi
  rw [fetchHighBody_eq]
  exact {
    memCanonical := by simpa [MemCanonical] using h.memCanonical
    pcInRange := by simp only [PcInRange, State.setCu_pc, State.setPc_pc, pc_succ_toNat hp]; omega
    pcPastFetched := by simp [PcPastFetched, pc_succ_toNat hp]
    irLowClear := by simp [IrLowClear, extractLsb'_append_zero]
    latchesHoldIr := by simp [LatchesHoldIr]
    terminateIsSuccess := by simp [TerminateIsSuccess, hr]
    faultPlace := by simp [FaultPlace, hr]
    faultAddrUnset := by simp [FaultAddrUnset, h.faultAddr_of_running hr]
    diagCounts := by simpa [DiagCounts, hr] using h.diag_of_running hr
    transferCounts := by simp [TransferCounts, transfersUnderWay]; omega }

/-- FETCH_LOW keeps the invariant (40_fetch_decode.md R103). -/
theorem Inv.after_fetchLowBody (h : Inv s) (hr : s.result = .running) (hc : s.cu = .fetchLow) (hp : s.pc.toNat ≤ 0x7FF) :
    Inv (fetchLowBody s) := by
  obtain ⟨hlo, hhi, -⟩ := h.transferCounts
  simp only [hc, transfersUnderWay] at hlo hhi
  have hpast := h.pcPastFetched.1 hc
  rw [fetchLowBody_eq]
  exact {
    memCanonical := by simpa [MemCanonical] using h.memCanonical
    pcInRange := by simp only [PcInRange, State.setCu_pc, State.setPc_pc, pc_succ_toNat hp]; omega
    pcPastFetched := by simp [PcPastFetched, pc_succ_toNat hp, hpast]
    irLowClear := by simp [IrLowClear]
    latchesHoldIr := by simp [LatchesHoldIr]
    terminateIsSuccess := by simp [TerminateIsSuccess, hr]
    faultPlace := by simp [FaultPlace, hr]
    faultAddrUnset := by simp [FaultAddrUnset, h.faultAddr_of_running hr]
    diagCounts := by simpa [DiagCounts, hr] using h.diag_of_running hr
    transferCounts := by simp [TransferCounts, transfersUnderWay]; omega }

/-- DECODE keeps the invariant (40_fetch_decode.md R104). -/
theorem Inv.after_decodeBody (h : Inv s) (hr : s.result = .running) (hc : s.cu = .decode) : Inv (decodeBody s) := by
  obtain ⟨hlo, hhi, -⟩ := h.transferCounts
  simp only [hc, transfersUnderWay] at hlo hhi
  obtain ⟨hd, hdi⟩ := h.diag_of_running hr
  exact {
    memCanonical := h.memCanonical
    pcInRange := h.pcInRange
    pcPastFetched := ⟨by simp [decodeBody], fun _ => h.pcPastFetched.2 (.inl hc)⟩
    irLowClear := by simp [IrLowClear, decodeBody]
    latchesHoldIr := fun _ => ⟨rfl, rfl⟩
    terminateIsSuccess := by simp [TerminateIsSuccess, decodeBody, hr]
    faultPlace := by simp [FaultPlace, decodeBody, hr]
    faultAddrUnset := fun _ => h.faultAddr_of_running hr
    diagCounts := by simp [DiagCounts, decodeBody, hr]; omega
    transferCounts := by simp [TransferCounts, decodeBody, transfersUnderWay]; omega }

/-- EOP keeps the invariant (43_control_flow.md R196). -/
theorem Inv.after_eop (h : Inv s) (hr : s.result = .running) (hc : s.cu = .execute) : Inv (executed .eop s) := by
  obtain ⟨hlo, hhi, -⟩ := h.transferCounts
  simp only [hc, transfersUnderWay] at hlo hhi
  exact {
    memCanonical := h.memCanonical
    pcInRange := h.pcInRange
    pcPastFetched := ⟨by simp [executed], fun _ => h.pcPastFetched.2 (.inr (.inl hc))⟩
    irLowClear := by simp [IrLowClear, executed]
    latchesHoldIr := by simp [LatchesHoldIr, executed]
    terminateIsSuccess := by simp [TerminateIsSuccess, executed]
    faultPlace := by simp [FaultPlace, executed]
    faultAddrUnset := fun _ => h.faultAddr_of_running hr
    diagCounts := by simpa [DiagCounts, executed] using h.diag_of_running hr
    transferCounts := by simp [TransferCounts, executed, transfersUnderWay]; omega }

/-- An instruction and the control unit's move after it keep the invariant (40_fetch_decode.md R107, R110). -/
theorem Inv.after_afterExecute (h : Inv s) (hr : s.result = .running) (hc : s.cu = .execute) (i : Instr) :
    Inv (afterExecute (executed i s)) := by
  by_cases hi : i.op = .eop
  · cases i with
    | eop => rw [afterExecute_eop]; exact h.after_eop hr hc
    | _ => cases hi
  · rw [afterExecute_executed hi hr hc]
    obtain ⟨hlo, -, hexec⟩ := h.transferCounts
    simp only [hc, transfersUnderWay] at hlo
    have htransfer := hexec hc
    obtain ⟨hge, hle⟩ := executed_transfers i s
    refine Inv.of_fetchHigh ((executed_result s hi).trans hr) rfl (executed_mem_wf i h.memCanonical)
      (executed_pc_le i h.pcInRange) ?_ ?_ ?_
    · simpa using h.faultAddr_of_running hr
    · simpa using h.diag_of_running hr
    · simp only [State.setCu_icount, State.setCu_transfers, executed_icount]
      omega

/-- An unrecognized opcode keeps the invariant in both modes (40_fetch_decode.md R106). -/
theorem Inv.after_unrecognized (h : Inv s) (hr : s.result = .running) (hc : s.cu = .execute) (mode : DecodeMode) :
    Inv (unrecognized mode s) := by
  obtain ⟨hlo, -, hexec⟩ := h.transferCounts
  have htransfer := hexec hc
  obtain ⟨-, -, hroom⟩ := h.diagCounts
  have hdiag := hroom hc hr
  obtain ⟨hd, -⟩ := h.diag_of_running hr
  cases mode with
  | permissive =>
    simp only [hc, transfersUnderWay] at hlo
    refine Inv.of_fetchHigh hr rfl h.memCanonical h.pcInRange (h.faultAddr_of_running hr) ?_ ?_
    · simp only [unrecognized, diagInvalidControlSignal, State.setCu_diag, State.setCu_diagLog, State.setCu_icount,
        State.recordDiag_diag, State.recordDiag_diagLog, State.recordDiag_icount, List.length_append, List.length_singleton]
      omega
    · simp only [unrecognized, diagInvalidControlSignal, State.setCu_icount, State.setCu_transfers, State.recordDiag_icount,
        State.recordDiag_transfers]
      omega
  | strict =>
    exact {
      memCanonical := h.memCanonical
      pcInRange := h.pcInRange
      pcPastFetched := h.pcPastFetched
      irLowClear := h.irLowClear
      latchesHoldIr := h.latchesHoldIr
      terminateIsSuccess := by simp [TerminateIsSuccess, unrecognized, hc]
      faultPlace := by simp [FaultPlace, unrecognized, hc]
      faultAddrUnset := fun _ => h.faultAddr_of_running hr
      diagCounts := by simp [DiagCounts, unrecognized]; omega
      transferCounts := h.transferCounts }

/-- FETCH_HIGH with its two checks keeps the invariant. -/
theorem Inv.after_cuFetchHigh (h : Inv s) (c : Config) (hr : s.result = .running) (hc : s.cu = .fetchHigh) :
    Inv (cuFetchHigh c s) := by
  unfold cuFetchHigh
  split
  · exact h.after_runaway hr hc
  · split
    · next hp => exact h.after_addressFault hr (.inl hc) (of_decide_eq_true hp)
    · next hp => exact h.after_fetchHighBody hr hc (by simpa [pcOutOfRange] using hp)

/-- FETCH_LOW with its range check keeps the invariant. -/
theorem Inv.after_cuFetchLow (h : Inv s) (hr : s.result = .running) (hc : s.cu = .fetchLow) : Inv (cuFetchLow s) := by
  unfold cuFetchLow
  split
  · next hp => exact h.after_addressFault hr (.inr hc) (of_decide_eq_true hp)
  · next hp => exact h.after_fetchLowBody hr hc (by simpa [pcOutOfRange] using hp)

end

/-- Every state step keeps the invariant. -/
theorem cuStep_keeps_inv (c : Config) (s t : State) (h : Inv s) (hs : cuStep c s = .next t) : Inv t := by
  obtain ⟨-, he⟩ | ⟨hr, hc, he⟩ | ⟨hr, hc, he⟩ | ⟨hr, hc, he⟩ | ⟨hr, hc, he⟩ | ⟨-, -, he⟩ := cuStep_cases c s
  · rw [he] at hs; cases hs
  · rw [he] at hs; cases hs; exact h.after_cuFetchHigh c hr hc
  · rw [he] at hs; cases hs; exact h.after_cuFetchLow hr hc
  · rw [he] at hs; cases hs; exact h.after_decodeBody hr hc
  · rw [he] at hs
    cases hd : decodeFields c.opcodeMap s.opc s.opr with
    | some i => rw [cuExecute_some hd] at hs; cases hs; exact h.after_afterExecute hr hc i
    | none => rw [cuExecute_none hd] at hs; cases hs; exact h.after_unrecognized hr hc _
  · rw [he] at hs; cases hs

/-- Every instruction step keeps the invariant. -/
theorem stepWith_keeps_inv (c : Config) {s t : State} (h : Inv s) (hs : stepWith c s = .next t) : Inv t :=
  cuSteps_preserves c (cuStep_keeps_inv c) 4 h hs

/-- The invariant holds at reset, for canonical initial contents of memory (10_state.md R41). -/
theorem resetWith_inv {p : ResetParams} (h : p.mem0.wf = true) : Inv (State.resetWith p) :=
  Inv.of_fetchHigh rfl rfl h (Nat.zero_le _) rfl ⟨rfl, le_rfl⟩ ⟨le_rfl, le_rfl⟩

end Sys2Proof.Machine

namespace Sys2Proof.Proofs

open Sys2Proof.Machine

/-- Settles O26: each state step keeps every clause of the invariant, and an instruction step is made of state steps. -/
theorem everyStepKeepsTheInvariant : Obligations.EveryStepKeepsTheInvariant := by
  intro c s t h
  exact ⟨cuStep_keeps_inv c s t h, stepWith_keeps_inv c h, stepWith_keeps_inv defaultConfig h⟩

/-- Settles O25: the reset values meet every clause, whatever the open parameters hold. -/
theorem invariantHoldsAtReset : Obligations.InvariantHoldsAtReset :=
  ⟨fun _ h => resetWith_inv h, resetWith_inv State.reset_mem_wf⟩

end Sys2Proof.Proofs
end

section
/-! Noninterference: a relation between two states that every part of the control unit keeps is kept by every run. -/

namespace Sys2Proof.Machine

/-- The two outcomes are next states in the relation, or the same fault or refusal. -/
inductive OutcomeRel (R : State → State → Prop) : (o o' : Host.Outcome State Fault Refusal) → Prop
  | next {s t : State} (h : R s t) : OutcomeRel R (.next s) (.next t)
  | fault (r : Fault) : OutcomeRel R (.fault r) (.fault r)
  | refused (r : Refusal) : OutcomeRel R (.refused r) (.refused r)

/-- The relation determines what the control unit reads of the state, and each thing that the control unit does keeps it. -/
structure KeptByControl (c : Config) (R : State → State → Prop) : Prop where
  cu {s t} : R s t → t.cu = s.cu
  result {s t} : R s t → t.result = s.result
  pc {s t} : R s t → t.pc = s.pc
  opc {s t} : R s t → t.opc = s.opc
  opr {s t} : R s t → t.opr = s.opr
  bound {s t} : R s t → boundReached c t = boundReached c s
  setCu {s t} (k : CuState) : R s t → R (s.setCu k) (t.setCu k)
  setResult {s t} (r : RunResult) : R s t → R (s.setResult r) (t.setResult r)
  setFaultAddr {s t} (a : BitVec 12) : R s t → R (s.setFaultAddr a) (t.setFaultAddr a)
  recordDiag {s t} (r : DiagRecord) : R s t → R (s.recordDiag r) (t.recordDiag r)
  countDiag {s t} : R s t → R s.countDiag t.countDiag
  fetchHighBody {s t} : R s t → R (fetchHighBody s) (fetchHighBody t)
  fetchLowBody {s t} : R s t → R (fetchLowBody s) (fetchLowBody t)
  decodeBody {s t} : R s t → R (decodeBody s) (decodeBody t)
  executed {s t} (i : Instr) : R s t → R (executed i s) (executed i t)

section
variable {c : Config} {R : State → State → Prop} {s t : State}

theorem KeptByControl.after_raise (H : KeptByControl c R) (a : Nat) (h : R s t) :
    R (raiseAddressOutOfRange a s) (raiseAddressOutOfRange a t) :=
  H.setResult _ (H.setFaultAddr _ h)

theorem KeptByControl.pcOutOfRange_eq (H : KeptByControl c R) (h : R s t) : pcOutOfRange t = pcOutOfRange s := by
  rw [pcOutOfRange, H.pc h, pcOutOfRange]

theorem KeptByControl.after_cuFetchHigh (H : KeptByControl c R) (h : R s t) : R (cuFetchHigh c s) (cuFetchHigh c t) := by
  unfold cuFetchHigh
  rw [H.bound h, H.pcOutOfRange_eq h, H.pc h]
  split
  · exact H.setResult _ h
  · split
    · exact H.after_raise _ h
    · exact H.fetchHighBody h

theorem KeptByControl.after_cuFetchLow (H : KeptByControl c R) (h : R s t) : R (cuFetchLow s) (cuFetchLow t) := by
  unfold cuFetchLow
  rw [H.pcOutOfRange_eq h, H.pc h]
  split
  · exact H.after_raise _ h
  · exact H.fetchLowBody h

theorem KeptByControl.after_afterExecute (H : KeptByControl c R) (h : R s t) : R (afterExecute s) (afterExecute t) := by
  unfold afterExecute
  rw [H.cu h, H.result h]
  split
  · exact h
  · exact H.setCu _ h

theorem KeptByControl.after_unrecognized (H : KeptByControl c R) (mode : DecodeMode) (h : R s t) :
    R (unrecognized mode s) (unrecognized mode t) := by
  cases mode with
  | permissive =>
    have hrec : diagRecord t = diagRecord s := by rw [diagRecord, H.pc h, H.opc h, diagRecord]
    simp only [unrecognized, diagInvalidControlSignal, hrec]
    exact H.setCu _ (H.recordDiag _ h)
  | strict => exact H.setResult _ (H.countDiag h)

theorem KeptByControl.after_cuExecute (H : KeptByControl c R) (h : R s t) :
    OutcomeRel R (cuExecute c s) (cuExecute c t) := by
  have ht : decodeFields c.opcodeMap t.opc t.opr = decodeFields c.opcodeMap s.opc s.opr := by rw [H.opc h, H.opr h]
  cases hs : decodeFields c.opcodeMap s.opc s.opr with
  | some i =>
    rw [cuExecute_some hs, cuExecute_some (ht.trans hs)]
    exact .next (H.after_afterExecute (H.executed i h))
  | none =>
    rw [cuExecute_none hs, cuExecute_none (ht.trans hs)]
    exact .next (H.after_unrecognized _ h)

theorem KeptByControl.after_cuStep (H : KeptByControl c R) (h : R s t) : OutcomeRel R (cuStep c s) (cuStep c t) := by
  unfold cuStep
  rw [H.result h, H.cu h]
  split
  · cases s.cu with
    | fetchHigh => exact .next (H.after_cuFetchHigh h)
    | fetchLow => exact .next (H.after_cuFetchLow h)
    | decode => exact .next (H.decodeBody h)
    | execute => exact H.after_cuExecute h
    | terminate => exact .fault _
  · exact .fault _

theorem KeptByControl.after_cuSteps (H : KeptByControl c R) (n : Nat) (h : R s t) :
    OutcomeRel R (cuSteps c n s) (cuSteps c n t) := by
  induction n generalizing s t with
  | zero => exact .next h
  | succ n ih =>
    have hstep := H.after_cuStep h
    rw [cuSteps, cuSteps]
    generalize cuStep c s = o, cuStep c t = o' at hstep ⊢
    cases hstep with
    | @next s' t' h' =>
      have hb : atBoundary t' = atBoundary s' := by rw [atBoundary, H.cu h', H.result h', atBoundary]
      simp only [hb]
      split
      · exact .next h'
      · exact ih h'
    | fault r => exact .fault r
    | refused r => exact .refused r

/-- Runs from related states lead to related states. -/
theorem KeptByControl.after_runSteps (H : KeptByControl c R) (n : Nat) (h : R s t) :
    R (runSteps c n s) (runSteps c n t) := by
  induction n generalizing s t with
  | zero => exact h
  | succ n ih =>
    have hstep : OutcomeRel R (stepWith c s) (stepWith c t) := H.after_cuSteps 4 h
    rw [runSteps, runSteps]
    generalize stepWith c s = o, stepWith c t = o' at hstep ⊢
    cases hstep with
    | next h' => exact ih h'
    | fault | refused => exact h

end

/-! The state but for CF and OF (10_state.md R23). -/

theorem sameButCarryOverflow_iff {s t : State} : Claims.SameButCarryOverflow s t ↔
    ∃ f : Flags, f.zf = s.flags.zf ∧ f.sf = s.flags.sf ∧ t = s.setFlags f :=
  ⟨fun ⟨ht, hz, hs⟩ => ⟨t.flags, hz, hs, ht⟩, by rintro ⟨f, hz, hs, rfl⟩; exact ⟨rfl, hz, hs⟩⟩

/-- The nine flag-writing operations do not read the flags (10_state.md R23). -/
theorem executed_setFlags_writer {i : Instr} (s : State) (f : Flags) (h : i.op ∈ Claims.flagWriters) :
    executed i (s.setFlags f) = executed i s := by
  cases i with
  | add | sub | mul | and | or | xor | not | shl | shr => rfl
  | _ => simp [Instr.op, Claims.flagWriters] at h

/-- Every other instruction reads at most ZF and SF of the flags and leaves them (43_control_flow.md R191). -/
theorem executed_setFlags {i : Instr} {s : State} {f : Flags} (hz : f.zf = s.flags.zf) (hs : f.sf = s.flags.sf)
    (h : i.op ∉ Claims.flagWriters) : executed i (s.setFlags f) = (executed i s).setFlags f := by
  cases i with
  | add | sub | mul | and | or | xor | not | shl | shr => simp [Instr.op, Claims.flagWriters] at h
  | bre | brne | brlt | brgt => simp only [executed, State.setFlags_flags, hz, hs]; rfl
  | _ => rfl

theorem executed_sameButCarryOverflow (i : Instr) {s t : State} (h : Claims.SameButCarryOverflow s t) :
    Claims.SameButCarryOverflow (executed i s) (executed i t) := by
  obtain ⟨f, hz, hs, rfl⟩ := sameButCarryOverflow_iff.1 h
  by_cases hi : i.op ∈ Claims.flagWriters
  · rw [executed_setFlags_writer s f hi]
    exact ⟨rfl, rfl, rfl⟩
  · rw [executed_setFlags hz hs hi]
    refine sameButCarryOverflow_iff.2 ⟨f, ?_, ?_, rfl⟩ <;> rwa [executed_flags s hi]

theorem sameButCarryOverflow_kept (c : Config) : KeptByControl c Claims.SameButCarryOverflow where
  cu h := by rw [h.1]
  result h := by rw [h.1]
  pc h := by rw [h.1]
  opc h := by rw [h.1]
  opr h := by rw [h.1]
  bound h := by rw [h.1]; rfl
  setCu k h := ⟨congrArg (State.setCu · k) h.1, h.2⟩
  setResult r h := ⟨congrArg (State.setResult · r) h.1, h.2⟩
  setFaultAddr a h := ⟨congrArg (State.setFaultAddr · a) h.1, h.2⟩
  recordDiag r h := ⟨congrArg (State.recordDiag · r) h.1, h.2⟩
  countDiag h := ⟨congrArg State.countDiag h.1, h.2⟩
  fetchHighBody h := by
    obtain ⟨f, hz, hs, rfl⟩ := sameButCarryOverflow_iff.1 h
    rw [fetchHighBody_eq, fetchHighBody_eq]
    exact ⟨rfl, hz, hs⟩
  fetchLowBody h := by
    obtain ⟨f, hz, hs, rfl⟩ := sameButCarryOverflow_iff.1 h
    rw [fetchLowBody_eq, fetchLowBody_eq]
    exact ⟨rfl, hz, hs⟩
  decodeBody h := ⟨congrArg Machine.decodeBody h.1, h.2⟩
  executed i h := executed_sameButCarryOverflow i h

/-! The state but for the bookkeeping (10_state.md R33-R35). -/

/-- The state with DIAG, its records, ICOUNT, FAULT_ADDR and the transfer count replaced. -/
def State.withBookkeeping (s : State) (d : Nat) (l : List DiagRecord) (n : Nat) (a : BitVec 12) (k : Nat) : State :=
  { s with diag := d, diagLog := l, icount := n, faultAddr := a, transfers := k }

theorem sameButBookkeeping_iff {s t : State} :
    Claims.SameButBookkeeping s t ↔ ∃ d l n a k, t = s.withBookkeeping d l n a k :=
  ⟨fun h => ⟨_, _, _, _, _, h⟩, by rintro ⟨d, l, n, a, k, rfl⟩; rfl⟩

/-- An update that differs only in the bookkeeping when the bookkeeping is replaced keeps the relation. -/
theorem sameButBookkeeping_update (u : State → State)
    (hu : ∀ s d l n a k, Claims.SameButBookkeeping (u s) (u (s.withBookkeeping d l n a k))) {s t : State}
    (h : Claims.SameButBookkeeping s t) : Claims.SameButBookkeeping (u s) (u t) := by
  obtain ⟨d, l, n, a, k, rfl⟩ := sameButBookkeeping_iff.1 h
  exact hu s d l n a k

/-- An instruction adds its transfers to the count and reads none of the bookkeeping (10_state.md R33-R35). -/
theorem executed_withBookkeeping (i : Instr) (s : State) (d : Nat) (l : List DiagRecord) (n : Nat) (a : BitVec 12) (k : Nat) :
    executed i (s.withBookkeeping d l n a k) =
      (executed i s).withBookkeeping d l n a (executed i (s.withBookkeeping d l n a k)).transfers := by
  cases i <;> rfl

theorem sameButBookkeeping_kept {c : Config} (hc : c.maxInstr = none) : KeptByControl c Claims.SameButBookkeeping where
  cu h := by rw [h]
  result h := by rw [h]
  pc h := by rw [h]
  opc h := by rw [h]
  opr h := by rw [h]
  bound h := by simp [boundReached, hc]
  setCu k h := congrArg (State.setCu · k) h
  setResult r h := congrArg (State.setResult · r) h
  setFaultAddr a := sameButBookkeeping_update (·.setFaultAddr a) fun _ _ _ _ _ _ => rfl
  recordDiag r := sameButBookkeeping_update (·.recordDiag r) fun _ _ _ _ _ _ => rfl
  countDiag := sameButBookkeeping_update State.countDiag fun _ _ _ _ _ _ => rfl
  fetchHighBody := sameButBookkeeping_update Machine.fetchHighBody fun _ _ _ _ _ _ => by
    rw [fetchHighBody_eq, fetchHighBody_eq]
    rfl
  fetchLowBody := sameButBookkeeping_update Machine.fetchLowBody fun _ _ _ _ _ _ => by
    rw [fetchLowBody_eq, fetchLowBody_eq]
    rfl
  decodeBody := sameButBookkeeping_update Machine.decodeBody fun _ _ _ _ _ _ => rfl
  executed i := sameButBookkeeping_update (executed i) fun s d l n a k =>
    sameButBookkeeping_iff.2 ⟨d, l, n, a, _, executed_withBookkeeping i s d l n a k⟩

end Sys2Proof.Machine

namespace Sys2Proof.Proofs

open Sys2Proof.Machine

/-- Settles O58: every part of the control unit keeps the states equal but for CF and OF. -/
theorem carryAndOverflowSteerNothing : Obligations.CarryAndOverflowSteerNothing :=
  fun c n _ _ h => (sameButCarryOverflow_kept c).after_runSteps n h

/-- Settles O59: without a bound, every part of the control unit keeps the states equal but for the bookkeeping. -/
theorem bookkeepingSteersNothing : Obligations.BookkeepingSteersNothing :=
  fun _ n _ _ hc h => (sameButBookkeeping_kept hc).after_runSteps n h

end Sys2Proof.Proofs
end

section
/-! The fetch of an instruction: from FETCH_HIGH with both bytes in memory, the instruction step is EXECUTE on the state that
`Claims.fetched` describes. -/

namespace Sys2Proof.Machine

open Sys2Proof.Claims

/-- The bytes that the two fetch states put together are the word, high byte first (40_fetch_decode.md R102, R103). -/
theorem append_zero_or_setWidth (hi lo : Byte) : (hi ++ 0x00#8 : Word) ||| lo.setWidth 16 = hi ++ lo := by
  apply BitVec.eq_of_getLsbD_eq
  intro i hi'
  rw [BitVec.getLsbD_or, BitVec.getLsbD_append, BitVec.getLsbD_append, BitVec.getLsbD_setWidth]
  by_cases h : i < 8
  · simp [h, hi']
  · simp [h, BitVec.getLsbD_of_ge lo i (by omega)]

/-- PC[10:0] as a narrower value of PC. -/
theorem pcAddr_eq_setWidth (p : Pc) : pcAddr p = p.setWidth 11 := by
  apply BitVec.eq_of_toNat_eq
  simp [pcAddr]

section
variable {c : Config} {s : State}

theorem boundReached_of_below (h : BelowBound c s) : boundReached c s = false := by
  unfold boundReached
  cases hm : c.maxInstr with
  | none => rfl
  | some n => simpa using h n hm

theorem pcOutOfRange_eq_false (h : s.pc.toNat ≤ 0x7FF) : pcOutOfRange s = false := by
  simpa [pcOutOfRange] using h

/-- A state step inside an instruction goes on with the rest of the instruction (40_fetch_decode.md R108). -/
theorem cuSteps_inside {t : State} (n : Nat) (h : cuStep c s = .next t) (hr : t.result = .running)
    (hc : t.cu ≠ .fetchHigh) : cuSteps c (n + 1) s = cuSteps c n t := by
  simp [cuSteps, h, atBoundary, hr, hc]

/-- One state step, wherever it leads. -/
theorem cuSteps_one (c : Config) (s : State) : cuSteps c 1 s = cuStep c s := by
  cases h : cuStep c s <;> simp [cuSteps, h]

theorem cuStep_fetchHigh (h : FetchReady c s) : cuStep c s = .next (fetchHighBody s) := by
  have hp : s.pc.toNat ≤ 0x7FF := h.inMemory.trans (by decide)
  simp [cuStep, h.running, h.atFetch, cuFetchHigh, boundReached_of_below h.below, pcOutOfRange_eq_false hp]

theorem cuStep_fetchLow (hr : s.result = .running) (hc : s.cu = .fetchLow) (hp : s.pc.toNat ≤ 0x7FF) :
    cuStep c s = .next (fetchLowBody s) := by
  simp [cuStep, hr, hc, cuFetchLow, pcOutOfRange_eq_false hp]

theorem cuStep_decode (hr : s.result = .running) (hc : s.cu = .decode) : cuStep c s = .next (decodeBody s) := by
  simp [cuStep, hr, hc]

theorem cuStep_execute (hr : s.result = .running) (hc : s.cu = .execute) : cuStep c s = cuExecute c s := by
  simp [cuStep, hr, hc]

/-- FETCH_HIGH, FETCH_LOW and DECODE together (40_fetch_decode.md R102-R104). -/
theorem decodeBody_fetchLowBody_fetchHighBody (hp : s.pc.toNat ≤ 0x7FE) :
    decodeBody (fetchLowBody (fetchHighBody s)) = fetched s := by
  have hpc : (s.pc + 1#12).toNat = s.pc.toNat + 1 := pc_succ_toNat (by omega)
  have hlow : s.pc.toNat ≤ 0x7FF := by omega
  have hhigh : (s.pc + 1#12).toNat ≤ 0x7FF := by omega
  rw [fetchHighBody_eq, fetchLowBody_eq]
  apply State.ext_fields <;>
    simp [decodeBody, fetched, wordAt, pcAddr_toNat hlow, pcAddr_toNat hhigh, hpc, append_zero_or_setWidth, opcodeField,
      operandField, ← pcAddr_eq_setWidth, BitVec.add_assoc]

/-- From a fetch that completes, the instruction step is EXECUTE on the fetched state (40_fetch_decode.md R108). -/
theorem stepWith_eq_cuExecute_fetched (h : FetchReady c s) : stepWith c s = cuExecute c (fetched s) := by
  have hp : (fetchHighBody s).pc.toNat ≤ 0x7FF := by
    have := h.inMemory
    simp only [fetchHighBody_eq, State.setCu_pc, State.setPc_pc, pc_succ_toNat (h.inMemory.trans (by decide))]
    omega
  have hr₁ : (fetchHighBody s).result = .running := by simp [fetchHighBody_eq, h.running]
  have hr₂ : (fetchLowBody (fetchHighBody s)).result = .running := by simp [fetchLowBody_eq, hr₁]
  calc stepWith c s
      = cuSteps c 3 (fetchHighBody s) := cuSteps_inside 3 (cuStep_fetchHigh h) hr₁ (by simp [fetchHighBody])
    _ = cuSteps c 2 (fetchLowBody (fetchHighBody s)) :=
        cuSteps_inside 2 (cuStep_fetchLow hr₁ (by simp [fetchHighBody]) hp) hr₂ (by simp [fetchLowBody])
    _ = cuSteps c 1 (decodeBody (fetchLowBody (fetchHighBody s))) :=
        cuSteps_inside 1 (cuStep_decode hr₂ (by simp [fetchLowBody])) (by simp [decodeBody, hr₂]) (by simp [decodeBody])
    _ = cuSteps c 1 (fetched s) := by rw [decodeBody_fetchLowBody_fetchHighBody h.inMemory]
    _ = cuExecute c (fetched s) := by rw [cuSteps_one, cuStep_execute (by simp [fetched, h.running]) rfl]

/-- Of a state about to fetch, the instruction step reads what the fetched state still holds. -/
theorem stepWith_eq_of_fetched_eq {s' : State} (h : FetchReady c s) (h' : FetchReady c s') (hf : fetched s = fetched s') :
    stepWith c s = stepWith c s' := by
  rw [stepWith_eq_cuExecute_fetched h, stepWith_eq_cuExecute_fetched h', hf]

end

end Sys2Proof.Machine
end

section
/-! Memories in canonical form, and the statements about single registers. -/

namespace Sys2Proof.Machine

theorem Memory.read_cons (a : Nat) (v : Byte) (m : Memory) (b : Nat) :
    Memory.read ((a, v) :: m) b = if a = b then v else m.read b := rfl

theorem Memory.wfFrom_cons {lo a : Nat} {v : Byte} {m : Memory} :
    Memory.wfFrom lo ((a, v) :: m) = true ↔ lo ≤ a ∧ a ≤ 0x7FF ∧ v ≠ unlisted ∧ Memory.wfFrom (a + 1) m = true := by
  simp [Memory.wfFrom, and_assoc]

/-- A listed address of a canonical list cannot be below the first address of one that reads alike. -/
theorem Memory.head_le {lo a a' : Nat} {v : Byte} {m m' : Memory} (h : Memory.wfFrom lo ((a, v) :: m) = true)
    (h' : Memory.wfFrom a' m' = true) (hread : ∀ x, x ≤ 0x7FF → Memory.read ((a, v) :: m) x = m'.read x) : a' ≤ a := by
  obtain ⟨-, ha, hv, -⟩ := Memory.wfFrom_cons.1 h
  by_contra hlt
  have hx := hread a ha
  rw [Memory.read_cons, if_pos rfl, Memory.read_below h' (by omega)] at hx
  exact hv hx

/-- Canonical lists that read alike are equal: the first addresses agree, then the bytes, then the rest. -/
theorem Memory.eq_of_read_eq {lo lo' : Nat} {m m' : Memory} (h : Memory.wfFrom lo m = true)
    (h' : Memory.wfFrom lo' m' = true) (hread : ∀ x, x ≤ 0x7FF → m.read x = m'.read x) : m = m' := by
  induction m generalizing lo lo' m' with
  | nil =>
    cases m' with
    | nil => rfl
    | cons c' m' =>
      obtain ⟨a', v'⟩ := c'
      obtain ⟨-, ha', hv', -⟩ := Memory.wfFrom_cons.1 h'
      have hx := hread a' ha'
      rw [Memory.read_cons, if_pos rfl] at hx
      exact absurd hx.symm hv'
  | cons c m ih =>
    obtain ⟨a, v⟩ := c
    obtain ⟨-, ha, hv, hm⟩ := Memory.wfFrom_cons.1 h
    cases m' with
    | nil =>
      have hx := hread a ha
      rw [Memory.read_cons, if_pos rfl] at hx
      exact absurd hx hv
    | cons c' m' =>
      obtain ⟨a', v'⟩ := c'
      obtain ⟨-, ha', hv', hm'⟩ := Memory.wfFrom_cons.1 h'
      have hle := Memory.head_le h (Memory.wfFrom_cons.2 ⟨le_rfl, ha', hv', hm'⟩) hread
      have hle' := Memory.head_le h' (Memory.wfFrom_cons.2 ⟨le_rfl, ha, hv, hm⟩) (fun x hx => (hread x hx).symm)
      obtain rfl : a = a' := Nat.le_antisymm hle' hle
      obtain rfl : v = v' := by simpa [Memory.read_cons] using hread a ha
      rw [ih hm hm']
      intro x hx
      by_cases hxa : a = x
      · subst hxa
        rw [Memory.read_below hm (Nat.lt_succ_self a), Memory.read_below hm' (Nat.lt_succ_self a)]
      · simpa [Memory.read_cons, hxa] using hread x hx

end Sys2Proof.Machine

namespace Sys2Proof.Proofs

open Sys2Proof.Machine

/-- Settles O29, by induction on the first list. -/
theorem canonicalMemoryIsDetermined : Obligations.CanonicalMemoryIsDetermined :=
  fun _ _ h h' hread => Memory.eq_of_read_eq h h' hread

/-- Settles O54: `executed` by the operation; WACC overwrites ACC without reading it. -/
theorem accAndFlagsHaveTheirWriters : Obligations.AccAndFlagsHaveTheirWriters := by
  refine ⟨fun i s t h => ?_, fun i s t v h hw hr => ?_, fun s t v h => ?_⟩
  · cases exec_next_iff.1 h
    exact ⟨executed_acc s, executed_flags s⟩
  · cases exec_next_iff.1 h
    rw [exec_eq, executed_withAcc s v hw hr]
  · cases exec_next_iff.1 h
    exact exec_eq .wacc _

/-- Settles O55: the frame of `executed`, register by register. -/
theorem registersHaveTheirWriters : Obligations.RegistersHaveTheirWriters := by
  intro i s t h
  cases exec_next_iff.1 h
  exact ⟨executed_mbr s, executed_iobr s, executed_lines s, executed_mem s, executed_iobuf s, executed_pc s,
    fun hi => ⟨executed_result s hi, executed_cu s hi⟩, executed_ir i s, executed_opc i s, executed_opr i s,
    executed_icount i s, executed_faultAddr i s⟩

/-- Settles O56: the fetched state overwrites each of these latches. -/
theorem latchesAreWrittenBeforeTheyAreRead : Obligations.LatchesAreWrittenBeforeTheyAreRead := by
  intro c s bus addr iom oe rw ir opc opr h
  exact stepWith_eq_of_fetched_eq ⟨h.running, h.atFetch, h.below, h.inMemory⟩ h rfl

/-- Settles O7: each row of the reset table is the field of `State.resetWith`. -/
theorem resetValuesAreTheTables : Obligations.ResetValuesAreTheTables := by
  intro p
  exact ⟨rfl, rfl, rfl, rfl, rfl, rfl, rfl, rfl, rfl, rfl, rfl, rfl, rfl, rfl, rfl, rfl, rfl, rfl, rfl, rfl⟩

end Sys2Proof.Proofs
end

section
/-! Memory by address, by planes and on the bus (spec/20_memory.md). -/

namespace Sys2Proof.Machine

/-- An 11-bit address lies in memory (20_memory.md R55). -/
theorem addr_toNat_le (a : Addr) : a.toNat ≤ 0x7FF := Nat.le_of_lt_succ a.isLt

section
variable {s : State} {a : Nat}

theorem memRead_inMemory (h : a ≤ 0x7FF) : memRead a s = some (s.mem.read a) := if_neg (by omega)

theorem memRead_outside (h : 0x7FF < a) : memRead a s = none := if_pos h

theorem memWrite_inMemory (v : Byte) (h : a ≤ 0x7FF) : memWrite a v s = some (s.setMem (s.mem.write a v)) :=
  if_neg (by omega)

theorem memWrite_outside (v : Byte) (h : 0x7FF < a) : memWrite a v s = none := if_pos h

/-- A write leaves what every other address reads as, refusals included (20_memory.md R59). -/
theorem memRead_write_ne (v : Byte) (hm : MemCanonical s) {b : Nat} (hb : b ≠ a) :
    memRead b (s.setMem (s.mem.write a v)) = memRead b s := by
  unfold memRead
  rw [State.setMem_mem, Memory.read_write hm, if_neg hb]

end

end Sys2Proof.Machine

namespace Sys2Proof.Proofs

open Sys2Proof.Machine

/-- Settles O28: reading after writing on the canonical list, and the range check of both operations. -/
theorem memoryRoundTripAndIsolation : Obligations.MemoryRoundTripAndIsolation := by
  intro s a v hm
  refine ⟨fun ha => ?_, fun ha => ⟨memRead_outside ha, memWrite_outside v ha⟩, ?_, ?_⟩
  · refine ⟨_, memWrite_inMemory v ha, ?_, fun b hb => memRead_write_ne v hm hb, rfl, Memory.write_wf v ha hm⟩
    rw [memRead_inMemory ha, State.setMem_mem, Memory.read_write hm, if_pos rfl]
  · simp [memRead_inMemory (addr_toNat_le s.addr)]
  · simp [memWrite_inMemory v (addr_toNat_le s.addr)]

end Sys2Proof.Proofs
end

section
/-! The bit chip: the address decomposition, and reads and writes of a byte bit by bit in the planes
(spec/20_memory.md R51-R58). -/

namespace Sys2Proof.Machine

theorem bankOf_eq (a : Nat) : bankOf a = a / 1024 % 2 := by
  rw [bankOf, Nat.shiftRight_eq_div_pow, Nat.and_one_is_mod]

theorem rowOf_eq (a : Nat) : rowOf a = a / 32 % 32 := by
  rw [rowOf, Nat.shiftRight_eq_div_pow]
  exact Nat.and_two_pow_sub_one_eq_mod _ 5

theorem columnOf_eq (a : Nat) : columnOf a = a % 32 := Nat.and_two_pow_sub_one_eq_mod a 5

/-- Bank, row and column determine the address (20_memory.md R52). -/
theorem composeAddr_decompose {a : Nat} (h : a ≤ 0x7FF) : composeAddr (bankOf a) (rowOf a) (columnOf a) = a := by
  rw [bankOf_eq, rowOf_eq, columnOf_eq, composeAddr]
  omega

section
variable {b r k : Nat}

theorem composeAddr_le (hb : b < 2) (hr : r < 32) (hk : k < 32) : composeAddr b r k ≤ 0x7FF := by
  rw [composeAddr]
  omega

theorem bankOf_composeAddr (hb : b < 2) (hr : r < 32) (hk : k < 32) : bankOf (composeAddr b r k) = b := by
  rw [bankOf_eq, composeAddr]
  omega

theorem rowOf_composeAddr (hr : r < 32) (hk : k < 32) : rowOf (composeAddr b r k) = r := by
  rw [rowOf_eq, composeAddr]
  omega

theorem columnOf_composeAddr (hk : k < 32) : columnOf (composeAddr b r k) = k := by
  rw [columnOf_eq, composeAddr]
  omega

/-- The one place of an address in the planes (20_memory.md R52). -/
theorem composeAddr_eq_iff {a : Nat} (ha : a ≤ 0x7FF) (hb : b < 2) (hr : r < 32) (hk : k < 32) :
    composeAddr b r k = a ↔ (b = bankOf a ∧ r = rowOf a) ∧ k = columnOf a := by
  constructor
  · rintro rfl
    exact ⟨⟨(bankOf_composeAddr hb hr hk).symm, (rowOf_composeAddr hr hk).symm⟩, (columnOf_composeAddr hk).symm⟩
  · rintro ⟨⟨rfl, rfl⟩, rfl⟩
    exact composeAddr_decompose ha

end

/-- Bit j of the byte that the loop of R57 has put together after n planes comes from plane n - 1 - j. -/
theorem reconstruct_getLsbD (planes : Nat → Nat → Nat → BitVec 32) (b r c : Nat) {n : Nat} (hn : n ≤ 8) (j : Nat) :
    (reconstruct planes b r c n).getLsbD j = (decide (j < n) && (planes b (n - 1 - j) r).getLsbD c) := by
  induction n generalizing j with
  | zero => simp [reconstruct]
  | succ n ih =>
    have hlast : (planes b n r >>> c &&& 1#32).getLsbD j = (decide (j = 0) && (planes b n r).getLsbD c) := by
      cases j <;> simp [BitVec.getLsbD_one]
    rw [reconstruct, BitVec.getLsbD_or, BitVec.getLsbD_setWidth, hlast, BitVec.getLsbD_shiftLeft]
    cases j with
    | zero => simp
    | succ j =>
      rw [Nat.add_sub_cancel, ih (by omega), show n + 1 - 1 - (j + 1) = n - 1 - j by omega]
      by_cases hj : j < n
      · have : j + 1 < 8 := by omega
        simp [hj, this]
      · simp [hj]

/-- What the planes of a memory give for an address is the byte stored there (20_memory.md R53, R57). -/
theorem readPlanes_planeWord (m : Memory) {a : Nat} (ha : a ≤ 0x7FF) : readPlanes (planeWord m) a = m.read a := by
  have hc : columnOf a < 32 := by rw [columnOf_eq]; omega
  apply BitVec.eq_of_getLsbD_eq
  intro j hj
  have hk : 7 - (8 - 1 - j) = j := by omega
  rw [readPlanes, reconstruct_getLsbD _ _ _ _ le_rfl, planeWord_getLsbD, planeBit, composeAddr_decompose ha, hk]
  simp [hj, hc]

/-- R58's update of a plane word replaces the one bit at the column. -/
theorem replaceBit_getLsbD (w : BitVec 32) (x : Bool) (k : Nat) {c : Nat} (hc : c < 32) :
    (w &&& ~~~(1#32 <<< k) ||| (BitVec.ofBool x).setWidth 32 <<< k).getLsbD c = if c = k then x else w.getLsbD c := by
  rcases Nat.lt_trichotomy c k with h | rfl | h
  · simp [h, h.ne, hc]
  · simp [hc]
  · have hbit : c - k ≠ 0 := by omega
    simp [h.ne', hc, hbit]

/-- Column c of a plane word after R58's write: bit 7-k of the byte at its place, the old bit elsewhere. -/
theorem writtenPlane_getLsbD (planes : Nat → Nat → Nat → BitVec 32) (a : Nat) (v : Byte) (b k r : Nat) {c : Nat}
    (hc : c < 32) :
    (writtenPlane planes a v b k r).getLsbD c =
      if (b = bankOf a ∧ r = rowOf a) ∧ c = columnOf a then v.getLsbD (7 - k) else (planes b k r).getLsbD c := by
  unfold writtenPlane
  by_cases hbr : b = bankOf a ∧ r = rowOf a
  · rw [if_pos hbr, replaceBit_getLsbD _ _ _ hc]
    simp [hbr]
  · simp [hbr]

/-- A plane's bit after a byte write. -/
theorem planeBit_write {m : Memory} (hm : m.wf = true) (a : Nat) (v : Byte) (b k r c : Nat) :
    planeBit (m.write a v) b k r c = if composeAddr b r c = a then v.getLsbD (7 - k) else planeBit m b k r c := by
  rw [planeBit, Memory.read_write hm, planeBit]
  split <;> rfl

/-- The planes of a memory after a byte write are R58's. -/
theorem planeWord_write {m : Memory} (hm : m.wf = true) {a : Nat} (ha : a ≤ 0x7FF) (v : Byte) {b r : Nat} (k : Nat)
    (hb : b < 2) (hr : r < 32) : planeWord (m.write a v) b k r = writtenPlane (planeWord m) a v b k r := by
  apply BitVec.eq_of_getLsbD_eq
  intro c hc
  rw [writtenPlane_getLsbD _ _ _ _ _ _ hc, planeWord_getLsbD, planeWord_getLsbD, planeBit_write hm]
  simp [composeAddr_eq_iff ha hb hr hc, hc]

end Sys2Proof.Machine

namespace Sys2Proof.Proofs

open Sys2Proof.Machine

/-- Settles O30: bank, row and column as quotients and remainders. -/
theorem addressDecompositionIsBijective : Obligations.AddressDecompositionIsBijective := by
  refine ⟨fun a ha => ?_, fun b r k hb hr hk => ?_⟩
  · refine ⟨?_, ?_, ?_, composeAddr_decompose ha, ?_⟩
    · rw [bankOf_eq]; omega
    · rw [rowOf_eq]; omega
    · rw [columnOf_eq]; omega
    · rw [bankOf_eq]; omega
  · exact ⟨composeAddr_le hb hr hk, bankOf_composeAddr hb hr hk, rowOf_composeAddr hr hk, columnOf_composeAddr hk⟩

/-- Settles O31: bit j of the byte is shifted in from plane 7 - j. -/
theorem readIsTheReconstructionFromPlanes : Obligations.ReadIsTheReconstructionFromPlanes := by
  intro s a ha
  rw [memRead_inMemory ha, readPlanes_planeWord s.mem ha]

/-- Settles O32, column by column of each plane word. -/
theorem writeChangesOneBitPerPlane : Obligations.WriteChangesOneBitPerPlane := by
  intro s t a v hm hw b k r hb _ hr
  obtain ⟨-, hn⟩ | ⟨ha, ht⟩ := memWrite_cases a v s
  · rw [hn] at hw
    cases hw
  · rw [ht] at hw
    cases hw
    exact planeWord_write hm ha v k hb hr

end Sys2Proof.Proofs
end

section
/-! The bus and the I/O buffer (spec/20_memory.md R61-R64). -/

namespace Sys2Proof.Machine

section
variable {s : State} {iom : Bool} {rw : Direction}

/-- Driving what ADDR and the control lines already hold changes nothing. -/
theorem setLines_setAddr_self (hoe : s.oe = true) (hiom : s.iom = iom) (hrw : s.rw = rw) :
    (s.setAddr s.addr).setLines iom rw true = s := by
  subst hiom hrw
  rw [State.setLines, ← hoe]
  rfl

/-- With OE = 1 a transfer is the one at ADDR by IOM and RW (20_memory.md R64). -/
theorem transfer_eq_transferAt (hoe : s.oe = true) (hiom : s.iom = iom) (hrw : s.rw = rw) :
    transfer s = transferAt s.addr iom rw s := by
  rw [transferAt, setLines_setAddr_self hoe hiom hrw]

end

/-- The index ADDR[4:0] is the address mod 32 (20_memory.md R61). -/
theorem ioIndex_toNat (a : Addr) : (ioIndex a).toNat = a.toNat % 32 := by
  rw [ioIndex, BitVec.extractLsb'_toNat, Nat.shiftRight_zero]

theorem ioRead_eq_getElem (a : Addr) (s : State) : ioRead a s = s.iobuf[(ioIndex a).toNat]'(ioIndex a).isLt := rfl

/-- Reading the I/O buffer after writing it: addresses alias exactly when their indices agree (20_memory.md R61, R62). -/
theorem ioRead_ioWrite (a b : Addr) (v : Byte) (s : State) :
    ioRead b (ioWrite a v s) = if b.toNat % 32 = a.toNat % 32 then v else ioRead b s := by
  simp only [ioRead_eq_getElem, ioWrite, State.setIobuf_iobuf, Vector.getElem_set, ← ioIndex_toNat,
    eq_comm (a := (ioIndex b).toNat)]

end Sys2Proof.Machine

namespace Sys2Proof.Proofs

open Sys2Proof.Machine

/-- Settles O33: with OE = 1, the four transfers at ADDR. -/
theorem transferByTheControlLines : Obligations.TransferByTheControlLines := by
  intro s
  refine ⟨transfer_disconnected, fun hoe hiom hrw => ?_, fun hoe hiom hrw => ?_, fun hoe hiom hrw => ?_,
    fun hoe hiom hrw => ?_⟩
  · rw [transfer_eq_transferAt hoe hiom hrw, transferAt_memRead, setLines_setAddr_self hoe hiom hrw]; rfl
  · rw [transfer_eq_transferAt hoe hiom hrw, transferAt_memWrite, setLines_setAddr_self hoe hiom hrw]; rfl
  · rw [transfer_eq_transferAt hoe hiom hrw, transferAt_ioRead, setLines_setAddr_self hoe hiom hrw]; rfl
  · rw [transfer_eq_transferAt hoe hiom hrw, transferAt_ioWrite, setLines_setAddr_self hoe hiom hrw]; rfl

/-- Settles O34: the index is the address mod 32. -/
theorem ioBufferUsesTheLowFiveBits : Obligations.IoBufferUsesTheLowFiveBits := by
  intro s a b v
  refine ⟨fun h => ?_, ioRead_ioWrite a b v s, rfl⟩
  simp only [ioRead_eq_getElem, ioIndex_toNat]

end Sys2Proof.Proofs
end

section
/-! Stores seen by the fetches after them (spec/20_memory.md R71). -/

namespace Sys2Proof.Machine

/-- An operand address as a PC is driven on ADDR as it is (40_fetch_decode.md R102). -/
theorem pcAddr_branchTarget (a : Addr) : pcAddr (branchTarget a) = a := by
  apply BitVec.eq_of_toNat_eq
  rw [pcAddr_toNat (branchTarget_le a), branchTarget, BitVec.toNat_setWidth_of_le (by decide)]

theorem fetchTransfer_bus (s : State) : (fetchTransfer s).bus = s.mem.read (pcAddr s.pc).toNat := by
  rw [fetchTransfer_eq, State.countTransfer_bus, State.setBus_bus]

section
variable {c : Config} {s : State}

/-- FETCH_HIGH below the bound and in memory; the low byte may lie past the end (40_fetch_decode.md R101, R102). -/
theorem cuStep_fetchHigh_inMemory (hr : s.result = .running) (hc : s.cu = .fetchHigh) (hb : Claims.BelowBound c s)
    (hp : s.pc.toNat ≤ 0x7FF) : cuStep c s = .next (fetchHighBody s) := by
  simp [cuStep, hr, hc, cuFetchHigh, boundReached_of_below hb, pcOutOfRange_eq_false hp]

/-- FETCH_HIGH at an address of memory reads the byte there to BUS (40_fetch_decode.md R102). -/
theorem fetchHigh_reads (hr : s.result = .running) (hb : Claims.BelowBound c s) (a : Addr) :
    ∃ w, cuStep c ((s.setCu .fetchHigh).setPc (branchTarget a)) = .next w ∧ w.bus = s.mem.read a.toNat := by
  refine ⟨fetchHighBody _, cuStep_fetchHigh_inMemory hr rfl hb (branchTarget_le a), ?_⟩
  simp [fetchHighBody, fetchTransfer_bus, pcAddr_branchTarget]

/-- FETCH_LOW at an address of memory reads the byte there to BUS (40_fetch_decode.md R103). -/
theorem fetchLow_reads (c : Config) (hr : s.result = .running) (a : Addr) :
    ∃ w, cuStep c ((s.setCu .fetchLow).setPc (branchTarget a)) = .next w ∧ w.bus = s.mem.read a.toNat := by
  refine ⟨fetchLowBody _, cuStep_fetchLow hr rfl (branchTarget_le a), ?_⟩
  simp [fetchLowBody, fetchTransfer_bus, pcAddr_branchTarget]

/-- The memory that WM leaves: MBR at its address, the old bytes elsewhere (41_memory_access.md R120). -/
theorem executed_wm_read (hm : MemCanonical s) (a b : Addr) :
    (executed (.wm a) s).mem.read b.toNat = if b = a then s.mbr else s.mem.read b.toNat := by
  simp [executed, Memory.read_write hm, BitVec.toNat_inj]

/-- EXECUTE does not count the instruction, so the host bound is as far away as before (10_state.md R35). -/
theorem belowBound_executed_iff (i : Instr) : Claims.BelowBound c (executed i s) ↔ Claims.BelowBound c s := by
  simp [Claims.BelowBound]

/-- A word decodes to what its two fields decode to (30_encoding.md R80). -/
theorem decodeWord_eq_ok_iff {m : OpcodeMap} {w : Word} {i : Instr} :
    decodeWord m w = .ok i ↔ decodeFields m (opcodeField w) (operandField w) = some i := by
  unfold decodeWord
  cases decodeFields m (opcodeField w) (operandField w) <;> simp

/-- A step whose word decodes to an instruction other than EOP leaves what it does to the fetched state, in FETCH_HIGH. -/
theorem stepWith_decoded {i : Instr} (h : Claims.FetchReady c s)
    (hd : decodeWord c.opcodeMap (Claims.wordAt s s.pc.toNat) = .ok i) (hi : i.op ≠ .eop) :
    stepWith c s = .next ((executed i (Claims.fetched s)).setCu .fetchHigh) := by
  have hf : decodeFields c.opcodeMap (Claims.fetched s).opc (Claims.fetched s).opr = some i := decodeWord_eq_ok_iff.1 hd
  rw [stepWith_eq_cuExecute_fetched h, cuExecute_some hf, afterExecute_executed (s := Claims.fetched s) hi h.running rfl]

end

end Sys2Proof.Machine

namespace Sys2Proof.Proofs

open Sys2Proof.Machine

/-- Settles O35: a fetch reads the memory that WM leaves, after WM alone and after the instruction step that runs it. -/
theorem storeIsSeenByTheNextFetch : Obligations.StoreIsSeenByTheNextFetch := by
  refine ⟨fun c s a hm => ?_, fun c s a hm h hd => ?_⟩
  · have hresult : (executed (.wm a) s).result = s.result := executed_result s (by simp [Instr.op])
    have hread : (executed (.wm a) s).mem.read a.toNat = s.mbr := by rw [executed_wm_read hm, if_pos rfl]
    refine ⟨_, exec_eq _ s, executed_ir _ s, executed_opc _ s, executed_opr _ s, fun hr hb => ?_, fun hr => ?_⟩
    · rw [← hread]
      exact fetchHigh_reads (hresult.trans hr) ((belowBound_executed_iff _).2 hb) a
    · rw [← hread]
      exact fetchLow_reads c (hresult.trans hr) a
  · have hresult : (executed (.wm a) (Claims.fetched s)).result = .running :=
      (executed_result _ (by simp [Instr.op])).trans h.running
    have hpc : (executed (.wm a) (Claims.fetched s)).pc = s.pc + 2#12 := executed_pc _ (by simp [Instr.op])
    have hread (b : Addr) :
        (executed (.wm a) (Claims.fetched s)).mem.read b.toNat = if b = a then s.mbr else s.mem.read b.toNat :=
      executed_wm_read (s := Claims.fetched s) hm a b
    refine ⟨_, stepWith_decoded h hd (by simp [Instr.op]), hresult, rfl, hpc, fun b => ?_⟩
    rw [← hread]
    exact ⟨fun hb => fetchHigh_reads hresult hb b, fetchLow_reads c hresult b⟩

end Sys2Proof.Proofs
end

section
/-! The encoding: what a word decodes to, the decoder on what the encoder and the assembler write, and the codes that an
opcode map leaves out (spec/30_encoding.md R80-R90). -/

namespace Sys2Proof

/-- The bits of an operand field that an instruction of this kind uses, the others 0 (30_encoding.md R82). -/
def OperandKind.used : OperandKind → Addr → Addr
  | .address, a => a
  | .immediate, a => (immediateOf a).setWidth 11
  | .absent, _ => 0#11

/-- The low byte of a widened byte is the byte. -/
theorem immediateOf_setWidth (b : Byte) : immediateOf (b.setWidth 11) = b := by
  rw [immediateOf, BitVec.extractLsb'_setWidth_of_le (by decide), BitVec.extractLsb'_eq_self]

/-- The immediate of a word's operand field is the word's low byte (30_encoding.md R82). -/
theorem immediateOf_operandField (w : Word) : immediateOf (operandField w) = w.extractLsb' 0 8 := by
  simp [immediateOf, operandField]

/-- An instruction is its operation with the operand field that the assembler writes for it. -/
theorem Instr.withOperand_operand (i : Instr) : i.op.withOperand i.operand = i := by
  cases i with
  | wb b => exact congrArg Instr.wb (immediateOf_setWidth b)
  | wib b => exact congrArg Instr.wib (immediateOf_setWidth b)
  | _ => rfl

@[simp] theorem Op.withOperand_operand (o : Op) (a : Addr) : (o.withOperand a).operand = o.kind.used a := by
  cases o <;> rfl

/-- Operand bits that the kind does not use select nothing (30_encoding.md R87). -/
theorem Op.withOperand_used (o : Op) (a : Addr) : o.withOperand (o.kind.used a) = o.withOperand a := by
  simpa using (o.withOperand a).withOperand_operand

theorem Op.withOperand_eq_of_used_eq {o : Op} {a b : Addr} (h : o.kind.used a = o.kind.used b) :
    o.withOperand a = o.withOperand b := by
  rw [← o.withOperand_used a, h, o.withOperand_used b]

section
variable {m : OpcodeMap}

/-- Under distinct codes the search of an operation's code finds the operation (30_encoding.md R83). -/
theorem decodeOp_map (hm : m.WellFormed) (o : Op) : decodeOp m (m o) = some o := by
  cases hd : decodeOp m (m o) with
  | none => exact absurd rfl (decodeOp_none.1 hd o)
  | some o' => rw [OpcodeMap.injective hm (decodeOp_code hd)]

theorem decodeFields_eq_some_iff {opc : Opcode} {opr : Addr} {i : Instr} :
    decodeFields m opc opr = some i ↔ ∃ o, decodeOp m opc = some o ∧ o.withOperand opr = i := by
  unfold decodeFields
  cases decodeOp m opc <;> simp

/-- A word decodes to an instruction exactly when the search of its opcode field finds the operation. -/
theorem decodeWord_eq_ok_iff_decodeOp {w : Word} {i : Instr} :
    decodeWord m w = .ok i ↔ ∃ o, decodeOp m (opcodeField w) = some o ∧ o.withOperand (operandField w) = i :=
  Machine.decodeWord_eq_ok_iff.trans decodeFields_eq_some_iff

/-- An assigned code with any operand field decodes to its operation (30_encoding.md R87). -/
theorem decodeWord_append (hm : m.WellFormed) (o : Op) (a : Addr) :
    decodeWord m (m o ++ a) = .ok (o.withOperand a) := by
  obtain ⟨hopc, hopr⟩ := Laws.fields_append (m o) a
  rw [decodeWord_eq_ok_iff_decodeOp, hopc, hopr]
  exact ⟨o, decodeOp_map hm o, rfl⟩

theorem decodeWord_encode (hm : m.WellFormed) (i : Instr) : decodeWord m (encode m i) = .ok i := by
  rw [encode, decodeWord_append hm, i.withOperand_operand]

/-- The two bytes of a word, high byte first, make the word (20_memory.md R60). -/
theorem decodeBytes_wordBytes (w : Word) :
    decodeBytes m (wordBytes w) = (decodeWord m w).map (fun i => (i, [])) := by
  have happend : (w.extractLsb' 8 8 ++ w.extractLsb' 0 8 : Word) = w := by
    rw [BitVec.extractLsb'_append_extractLsb'_eq_extractLsb' (show 8 = 0 + 8 from rfl), BitVec.extractLsb'_eq_self]
  rw [wordBytes, decodeBytes, happend]
  cases decodeWord m w <;> rfl

/-- The search fails exactly on the codes that the map leaves out (30_encoding.md R86). -/
theorem unassigned_iff {code : Opcode} : Claims.Unassigned m code ↔ decodeOp m code = none :=
  decodeOp_none.symm

/-- An unassigned code is the only kind of bad word (30_encoding.md R87). -/
theorem decodeWord_ne_ok_iff {w : Word} :
    (∀ i, decodeWord m w ≠ .ok i) ↔ Claims.Unassigned m (opcodeField w) := by
  rw [unassigned_iff, Option.eq_none_iff_forall_ne_some]
  constructor
  · intro h o ho
    exact h _ (decodeWord_eq_ok_iff_decodeOp.2 ⟨o, ho, rfl⟩)
  · intro h i hi
    obtain ⟨o, ho, -⟩ := decodeWord_eq_ok_iff_decodeOp.1 hi
    exact h o ho

/-- The 32 opcodes. -/
def allCodes : List Opcode := (List.range 32).map (BitVec.ofNat 5)

theorem mem_allCodes : ∀ code : Opcode, code ∈ allCodes := by decide

theorem allCodes_nodup : allCodes.Nodup := by decide

/-- A code is found exactly when the map gives it to an operation. -/
theorem decodeOp_isSome_iff {code : Opcode} :
    (decodeOp m code).isSome = true ↔ code ∈ Op.all.map m := by
  rw [Option.isSome_iff_ne_none, Ne, decodeOp_none, List.mem_map]
  simp [Op.mem_all]

/-- The codes that decode are those of the operations, each once (30_encoding.md R83). -/
theorem assignedCodes_perm (hm : m.WellFormed) :
    (allCodes.filter (fun code => (decodeOp m code).isSome)).Perm (Op.all.map m) := by
  rw [List.perm_ext_iff_of_nodup (allCodes_nodup.filter _) hm]
  intro code
  rw [List.mem_filter, decodeOp_isSome_iff]
  exact and_iff_right (mem_allCodes code)

theorem unassignedCodes_length (hm : m.WellFormed) :
    (allCodes.filter (fun code => (decodeOp m code).isNone)).length = 8 := by
  have hassigned : (allCodes.filter (fun code => (decodeOp m code).isSome)).length = 24 :=
    (assignedCodes_perm hm).length_eq.trans (List.length_map m)
  have hsplit := allCodes.length_eq_length_filter_add (fun code => (decodeOp m code).isSome)
  simp only [Option.not_isSome] at hsplit
  have hall : allCodes.length = 32 := rfl
  omega

end

/-- The operands that the assembler accepts, kind by kind (30_encoding.md R88). -/
theorem OperandKind.accepts_iff (k : OperandKind) (x : Option Nat) :
    k.accepts x = true ↔
      (k = .address ∧ ∃ n, x = some n ∧ n ≤ 0x7FF) ∨ (k = .immediate ∧ ∃ n, x = some n ∧ n ≤ 0xFF)
        ∨ (k = .absent ∧ x = none) := by
  cases k with
  | address | immediate | absent => cases x <;> simp [OperandKind.accepts]

/-- An accepted operand fits the operand field. -/
theorem OperandKind.accepts_le {k : OperandKind} {x : Option Nat} (h : k.accepts x = true) : x.getD 0 ≤ 0x7FF := by
  obtain ⟨-, n, rfl, hn⟩ | ⟨-, n, rfl, hn⟩ | ⟨-, rfl⟩ := (k.accepts_iff x).1 h
  · exact hn
  · exact hn.trans (by decide)
  · exact Nat.zero_le _

/-- `(code << 11) | operand` as a number (30_encoding.md R88). -/
theorem append_ofNat_toNat (code : Opcode) {n : Nat} (h : n ≤ 0x7FF) :
    (code ++ BitVec.ofNat 11 n : Word).toNat = code.toNat * 2048 + n := by
  have hn : n < 2 ^ 11 := by omega
  rw [BitVec.toNat_append, BitVec.toNat_ofNat, Nat.mod_eq_of_lt hn, ← Nat.shiftLeft_add_eq_or_of_lt hn,
    Nat.shiftLeft_eq]

end Sys2Proof

namespace Sys2Proof.Machine

section
variable {m : OpcodeMap} {o : Op} {x : Option Nat}

theorem assembleInstr_eq_ok_iff {w : Word} :
    assembleInstr m o x = .ok w ↔ o.kind.accepts x = true ∧ m o ++ BitVec.ofNat 11 (x.getD 0) = w := by
  unfold assembleInstr
  split <;> simp [*]

theorem exists_assembleInstr_eq_ok_iff : (∃ w, assembleInstr m o x = .ok w) ↔ o.kind.accepts x = true := by
  simp [assembleInstr_eq_ok_iff]

theorem assembleInstr_eq_refused_iff : assembleInstr m o x = .error .operandRefused ↔ ¬ o.kind.accepts x = true := by
  unfold assembleInstr
  split <;> simp [*]

end

end Sys2Proof.Machine

namespace Sys2Proof.Proofs

open Sys2Proof.Machine

/-- Settles O2: an instruction is its operation with its operand field, and those are the two fields of its word. -/
theorem decodeReadsBackEncode : Obligations.DecodeReadsBackEncode := by
  intro m i hm
  refine ⟨decodeWord_encode hm i, ?_⟩
  rw [encodeBytes, decodeBytes_wordBytes, decodeWord_encode hm]
  rfl

/-- Settles O3: the instruction is the found operation with the word's operand field. -/
theorem decodedFieldsAreTheWords : Obligations.DecodedFieldsAreTheWords := by
  intro m w i h
  obtain ⟨o, ho, rfl⟩ := decodeWord_eq_ok_iff_decodeOp.1 h
  rw [Op.withOperand_op, Op.withOperand_operand]
  refine ⟨decodeOp_code ho, fun hk => ?_, fun hk => ?_, fun hk => ?_⟩
  · rw [hk]; rfl
  · rw [hk, OperandKind.used, immediateOf_operandField]
  · rw [hk]; rfl

/-- Settles O4: operand fields with the same used bits give the same instruction. -/
theorem everyOperandValueDecodes : Obligations.EveryOperandValueDecodes := by
  refine ⟨fun m o a hm => decodeWord_append hm o a, fun o a b hk => ?_, fun o a b hk hab => ?_,
    fun m w => decodeWord_ne_ok_iff⟩
  · apply Op.withOperand_eq_of_used_eq
    rw [hk]; rfl
  · apply Op.withOperand_eq_of_used_eq
    rw [hk]
    exact congrArg (BitVec.setWidth 11) hab

/-- Settles O5: of the 32 codes, those that decode are a permutation of the 24 that the map gives. -/
theorem eightCodesAreUnassigned : Obligations.EightCodesAreUnassigned := by
  refine ⟨by decide, ?_, rfl, fun m hm => ?_⟩
  · simp only [unassigned_iff]
    decide
  · have h := unassignedCodes_length hm
    rwa [allCodes, List.filter_map, List.length_map] at h

/-- Settles O6: the assembler gives a word exactly for the operands that R88 accepts, and those fit the operand field. -/
theorem assembledWordIsTheInstruction : Obligations.AssembledWordIsTheInstruction := by
  intro m o x hm
  rw [← o.kind.accepts_iff x]
  refine ⟨fun w hw => ?_, exists_assembleInstr_eq_ok_iff, assembleInstr_eq_refused_iff⟩
  obtain ⟨hx, rfl⟩ := assembleInstr_eq_ok_iff.1 hw
  exact ⟨decodeWord_append hm o _, append_ofNat_toNat (m o) (OperandKind.accepts_le hx)⟩

/-- Settles O1: the words are computed, and decoded as a code of R84 with an operand field. -/
theorem workedWordsEncodeAndDecode : Obligations.WorkedWordsEncodeAndDecode := by
  have hm : defaultOpcodeMap.WellFormed := by decide
  exact ⟨rfl, rfl, rfl, rfl, rfl, decodeWord_append hm .wm 0x400#11, decodeWord_append hm .add 0x000#11,
    decodeWord_append hm .brlt 0x00E#11, decodeWord_append hm .eop 0x7FF#11⟩

end Sys2Proof.Proofs
end

section
/-! Fetch and decode (spec/40_fetch_decode.md): each state step of an instruction, where an instruction step ends early, and
what an instruction step that completes leaves. -/

namespace Sys2Proof.Machine

open Sys2Proof.Claims

/-- Bits 15:11 of a word as the shift of R104. -/
theorem opcodeField_eq_shiftRight (w : Word) : opcodeField w = (w >>> 11).setWidth 5 := by
  apply BitVec.eq_of_toNat_eq
  simp [opcodeField]

/-- Bits 10:0 of a word as the mask of R104. -/
theorem operandField_eq_and (w : Word) : operandField w = (w &&& 0x7FF#16).setWidth 11 := by
  apply BitVec.eq_of_toNat_eq
  have hmask (n : Nat) : n &&& 0x7FF = n % 0x800 := Nat.and_two_pow_sub_one_eq_mod n 11
  simp [operandField, hmask]

/-- Two bytes in memory decode as the word they make, high byte first (20_memory.md R60). -/
theorem decodeBytes_pair_eq_ok_iff {m : OpcodeMap} {hi lo : Byte} {i : Instr} :
    decodeBytes m [hi, lo] = .ok (i, []) ↔ decodeWord m (hi ++ lo) = .ok i := by
  rw [decodeBytes]
  cases decodeWord m (hi ++ lo) <;> simp

/-- The address fault of a fetch records PC itself (60_exceptions.md R212). -/
theorem raiseAddressOutOfRange_pc (s : State) :
    raiseAddressOutOfRange s.pc.toNat s = (s.setFaultAddr s.pc).setResult .addressFault := by
  rw [raiseAddressOutOfRange, BitVec.ofNat_toNat, BitVec.setWidth_eq]

@[simp] theorem fetchHighBody_result (s : State) : (fetchHighBody s).result = s.result := by simp [fetchHighBody_eq]
@[simp] theorem fetchLowBody_result (s : State) : (fetchLowBody s).result = s.result := by simp [fetchLowBody_eq]

theorem fetchHighBody_pc_toNat {s : State} (h : s.pc.toNat ≤ 0x7FF) : (fetchHighBody s).pc.toNat = s.pc.toNat + 1 :=
  pc_succ_toNat h

/-- The move after EXECUTE leaves PC as the instruction left it (40_fetch_decode.md R107). -/
@[simp] theorem afterExecute_pc (s : State) : (afterExecute s).pc = s.pc := by
  unfold afterExecute
  split <;> rfl

/-- The move after EXECUTE makes no transfer (40_fetch_decode.md R107). -/
@[simp] theorem afterExecute_transfers (s : State) : (afterExecute s).transfers = s.transfers := by
  unfold afterExecute
  split <;> rfl

@[simp] theorem fetched_pc (s : State) : (fetched s).pc = s.pc + 2#12 := rfl
@[simp] theorem fetched_flags (s : State) : (fetched s).flags = s.flags := rfl
@[simp] theorem fetched_transfers (s : State) : (fetched s).transfers = s.transfers + 2 := rfl

@[simp] theorem unrecognized_pc (mode : DecodeMode) (s : State) : (unrecognized mode s).pc = s.pc := by cases mode <;> rfl

@[simp] theorem unrecognized_transfers (mode : DecodeMode) (s : State) :
    (unrecognized mode s).transfers = s.transfers := by cases mode <;> rfl

/-- The PC that each instruction leaves (40_fetch_decode.md R109). -/
theorem executed_pc_eq_pcAfter (i : Instr) (s : State) : (executed i s).pc = pcAfter i s.flags s.pc := by
  cases i with
  | br | bre | brne | brlt | brgt => simp [executed, pcAfter, branchTarget]
  | _ => exact executed_pc s (by simp [Instr.op])

/-- The transfers that each instruction makes in EXECUTE (40_fetch_decode.md R110). -/
theorem executed_transfers_eq (i : Instr) (s : State) : (executed i s).transfers = s.transfers + executeTransfers i := by
  cases i with
  | wm | rm | rio | wio => rfl
  | _ => simp [executed, executeTransfers]

section
variable {c : Config} {s t : State}

theorem boundReached_of_not_below (h : ¬ BelowBound c s) : boundReached c s = true := by
  unfold boundReached
  cases hm : c.maxInstr with
  | none => exact absurd (fun _ hn => nomatch hm.symm.trans hn) h
  | some n => simpa [BelowBound, hm] using h

/-- FETCH_HIGH with the host bound reached, whatever PC is (60_exceptions.md R218, R219). -/
theorem cuStep_fetchHigh_bound (hr : s.result = .running) (hc : s.cu = .fetchHigh) (hb : ¬ BelowBound c s) :
    cuStep c s = .next (s.setResult .runaway) := by
  simp [cuStep, hr, hc, cuFetchHigh, boundReached_of_not_below hb]

/-- FETCH_HIGH with PC past memory (40_fetch_decode.md R101). -/
theorem cuStep_fetchHigh_pastMemory (hr : s.result = .running) (hc : s.cu = .fetchHigh) (hb : BelowBound c s)
    (hp : 0x7FF < s.pc.toNat) : cuStep c s = .next ((s.setFaultAddr s.pc).setResult .addressFault) := by
  simp [cuStep, hr, hc, cuFetchHigh, boundReached_of_below hb, pcOutOfRange, hp, raiseAddressOutOfRange_pc]

/-- FETCH_LOW with PC past memory (40_fetch_decode.md R101). -/
theorem cuStep_fetchLow_pastMemory (hr : s.result = .running) (hc : s.cu = .fetchLow) (hp : 0x7FF < s.pc.toNat) :
    cuStep c s = .next ((s.setFaultAddr s.pc).setResult .addressFault) := by
  simp [cuStep, hr, hc, cuFetchLow, pcOutOfRange, hp, raiseAddressOutOfRange_pc]

/-- An instruction step ends with the state step that ends the run (40_fetch_decode.md R108). -/
theorem cuSteps_ends (n : Nat) (h : cuStep c s = .next t) (ht : t.result ≠ .running) :
    cuSteps c (n + 1) s = .next t := by
  simp [cuSteps, h, atBoundary, ht]

/-- The fetch that starts at the last byte of memory faults in FETCH_LOW (40_fetch_decode.md R108). -/
theorem fetchLow_at_lastByte (hr : s.result = .running) (hc : s.cu = .fetchHigh) (hb : BelowBound c s)
    (hp : s.pc.toNat = 0x7FF) :
    ∃ u, cuStep c (fetchHighBody s) = .next u ∧ u.result = .addressFault ∧ stepWith c s = .next u := by
  have hpast : 0x7FF < (fetchHighBody s).pc.toNat := by rw [fetchHighBody_pc_toNat hp.le]; omega
  have hhigh := cuStep_fetchHigh_inMemory hr hc hb hp.le
  have hlow := cuStep_fetchLow_pastMemory (c := c) ((fetchHighBody_result s).trans hr) rfl hpast
  refine ⟨_, hlow, rfl, ?_⟩
  calc stepWith c s
      = cuSteps c 3 (fetchHighBody s) := cuSteps_inside 3 hhigh ((fetchHighBody_result s).trans hr) (by simp [fetchHighBody])
    _ = _ := cuSteps_ends 2 hlow (by simp)

/-- The first state step ends the run where the host bound is reached or PC lies past memory. -/
theorem fetchHigh_fails (hr : s.result = .running) (hc : s.cu = .fetchHigh) (h : ¬ BelowBound c s ∨ 0x7FF < s.pc.toNat) :
    ∃ u, cuStep c s = .next u ∧ FaultState u ∧ stepWith c s = .next u := by
  by_cases hb : BelowBound c s
  · have hstep := cuStep_fetchHigh_pastMemory hr hc hb (h.resolve_left (not_not_intro hb))
    exact ⟨_, hstep, .inl rfl, cuSteps_ends 3 hstep (by simp)⟩
  · have hstep := cuStep_fetchHigh_bound hr hc hb
    exact ⟨_, hstep, .inr (.inl rfl), cuSteps_ends 3 hstep (by simp)⟩

/-- An instruction step from FETCH_HIGH has both its bytes in memory, or a fatal error ends it. -/
theorem fetchReady_or_fault (hr : s.result = .running) (hc : s.cu = .fetchHigh) :
    FetchReady c s ∨ ∃ u, stepWith c s = .next u ∧ FaultState u := by
  by_cases hfail : ¬ BelowBound c s ∨ 0x7FF < s.pc.toNat
  · obtain ⟨u, -, hu, hs⟩ := fetchHigh_fails hr hc hfail
    exact .inr ⟨u, hs, hu⟩
  · obtain ⟨hb, hp⟩ := not_or.1 hfail
    by_cases hlast : s.pc.toNat = 0x7FF
    · obtain ⟨u, -, hu, hs⟩ := fetchLow_at_lastByte hr hc (not_not.1 hb) hlast
      exact .inr ⟨u, hs, .inl hu⟩
    · exact .inl ⟨hr, hc, not_not.1 hb, by omega⟩

theorem FaultState.not_safe (h : FaultState s) : ¬ SafeState s := by
  obtain h | h | h := h <;> simp [SafeState, h]

/-- An instruction step that ends in a safe state has fetched its whole instruction. -/
theorem fetchReady_of_stepWith_safe (hc : s.cu = .fetchHigh) (hs : stepWith c s = .next t) (ht : SafeState t) :
    FetchReady c s := by
  have hr : s.result = .running := by
    by_contra hr
    rw [stepWith, cuSteps_ended hr] at hs
    cases hs
  refine (fetchReady_or_fault hr hc).resolve_right ?_
  rintro ⟨u, hu, hfault⟩
  cases hs.symm.trans hu
  exact hfault.not_safe ht

/-- What an instruction step whose fetch completes leaves: the decoded instruction run on the fetched state, or the
unrecognized opcode there (40_fetch_decode.md R105, R106). -/
theorem stepWith_next_cases (h : FetchReady c s) (hs : stepWith c s = .next t) :
    (∃ i, decodeWord c.opcodeMap (wordAt s s.pc.toNat) = .ok i ∧ t = afterExecute (executed i (fetched s))) ∨
    (∃ e, decodeWord c.opcodeMap (wordAt s s.pc.toNat) = .error e ∧ t = unrecognized c.decodeMode (fetched s)) := by
  rw [stepWith_eq_cuExecute_fetched h] at hs
  cases hd : decodeFields c.opcodeMap (fetched s).opc (fetched s).opr with
  | some i =>
    rw [cuExecute_some hd] at hs
    cases hs
    exact .inl ⟨i, decodeWord_eq_ok_iff.2 hd, rfl⟩
  | none =>
    rw [cuExecute_none hd] at hs
    cases hs
    cases hw : decodeWord c.opcodeMap (wordAt s s.pc.toNat) with
    | ok i => cases hd.symm.trans (decodeWord_eq_ok_iff.1 hw)
    | error e => exact .inr ⟨e, rfl, rfl⟩

end

end Sys2Proof.Machine

namespace Sys2Proof.Proofs

open Sys2Proof.Machine

/-- Settles O11: the four state steps one after another, and the early ends in FETCH_LOW and FETCH_HIGH. -/
theorem instructionStepIsTheStateSteps : Obligations.InstructionStepIsTheStateSteps := by
  intro c s hr hc
  refine ⟨fun hb hp => ?_, fun hb hp => ?_, fun h => ?_⟩
  · have h : Claims.FetchReady c s := ⟨hr, hc, hb, hp⟩
    have hr₁ : (fetchHighBody s).result = .running := (fetchHighBody_result s).trans hr
    have hr₂ : (fetchLowBody (fetchHighBody s)).result = .running := (fetchLowBody_result _).trans hr₁
    have hp₁ : (fetchHighBody s).pc.toNat ≤ 0x7FF := by rw [fetchHighBody_pc_toNat (by omega)]; omega
    refine ⟨_, _, Claims.fetched s, cuStep_fetchHigh h, rfl, cuStep_fetchLow hr₁ rfl hp₁, rfl, ?_, rfl, ?_⟩
    · rw [cuStep_decode hr₂ rfl, decodeBody_fetchLowBody_fetchHighBody hp]
    · rw [stepWith_eq_cuExecute_fetched h, cuStep_execute (s := Claims.fetched s) hr rfl]
  · exact ⟨_, (fetchLow_at_lastByte hr hc hb hp).imp fun _ h => ⟨cuStep_fetchHigh_inMemory hr hc hb hp.le, h⟩⟩
  · obtain ⟨u, hu, -, hs⟩ := fetchHigh_fails hr hc h
    rw [hs, hu]

/-- Settles O14: a step that completes ran its instruction, or none, on the fetched state, whose PC is p + 2. -/
theorem pcAccountingPerInstruction : Obligations.PcAccountingPerInstruction := by
  intro c s t hc hs ht
  obtain ⟨i, hd, rfl⟩ | ⟨e, hd, rfl⟩ := stepWith_next_cases (fetchReady_of_stepWith_safe hc hs ht) hs
  · simp only [hd, afterExecute_pc, executed_pc_eq_pcAfter, fetched_flags, fetched_pc]
  · simp only [hd, unrecognized_pc, fetched_pc]

/-- Settles O15: the fetched state counts two transfers, and only a bus instruction adds one. -/
theorem transfersPerInstruction : Obligations.TransfersPerInstruction := by
  intro c s t hc hs ht
  obtain ⟨i, hd, rfl⟩ | ⟨e, hd, rfl⟩ := stepWith_next_cases (fetchReady_of_stepWith_safe hc hs ht) hs
  · simp only [hd, afterExecute_transfers, executed_transfers_eq, fetched_transfers]
  · simp only [hd, unrecognized_transfers, fetched_transfers, Nat.add_zero]

/-- Settles O9: both fetch states in plain updates, PC in memory being the address on ADDR. -/
theorem fetchStatesAssembleTheWord : Obligations.FetchStatesAssembleTheWord := by
  intro c s hr hp
  refine ⟨fun hc hb => ?_, fun hc => ?_⟩
  · rw [cuStep_fetchHigh_inMemory hr hc hb hp, fetchHighBody_eq, pcAddr_toNat hp, pcAddr_eq_setWidth]
    refine congrArg _ ?_
    apply State.ext_fields <;> simp
  · rw [cuStep_fetchLow hr hc hp, fetchLowBody_eq, pcAddr_toNat hp, pcAddr_eq_setWidth]
    refine congrArg _ ?_
    apply State.ext_fields <;> simp

/-- Settles O10: the latched fields are the shift and the mask of R104. -/
theorem decodeLatchesTheFields : Obligations.DecodeLatchesTheFields := by
  intro c s hr hc
  rw [cuStep_decode hr hc, decodeBody, opcodeField_eq_shiftRight, operandField_eq_and]
  rfl

/-- Settles O12: the bytes at PC are the fetched word, whose instruction EXECUTE runs on the fetched state. -/
theorem stepRunsTheDecodedInstruction : Obligations.StepRunsTheDecodedInstruction := by
  refine ⟨fun c s i h hd => ?_, rfl⟩
  have hf : decodeFields c.opcodeMap (Claims.fetched s).opc (Claims.fetched s).opr = some i :=
    decodeWord_eq_ok_iff.1 (decodeBytes_pair_eq_ok_iff.1 hd)
  rw [stepWith_eq_cuExecute_fetched h, cuExecute_some hf, exec_eq]
  rfl

/-- Settles O13: the latches of an unassigned code decode to nothing, and the mode decides. -/
theorem unrecognizedOpcodeByMode : Obligations.UnrecognizedOpcodeByMode := by
  refine ⟨fun c s hr hc hun => ?_, rfl⟩
  have hf : decodeFields c.opcodeMap s.opc s.opr = none := by rw [decodeFields, unassigned_iff.1 hun]
  refine ⟨fun hmode => ?_, fun hmode => ?_⟩ <;> rw [cuStep_execute hr hc, cuExecute_none hf, hmode] <;> rfl

/-- Settles O17: the range check of both fetch states. -/
theorem fetchPastMemoryRaisesAddressFault : Obligations.FetchPastMemoryRaisesAddressFault := by
  rintro c s hr hp (⟨hc, hb⟩ | hc)
  · exact cuStep_fetchHigh_pastMemory hr hc hb hp
  · exact cuStep_fetchLow_pastMemory hr hc hp

end Sys2Proof.Proofs
end


section
/-! The memory-access family (spec/41_memory_access.md): what memory reads as after a store and where the I/O buffer is
read, then the statements, by `exec_eq`. -/

namespace Sys2Proof.Machine

/-- Every address after a write in memory, refusals included (20_memory.md R55, R59). -/
theorem memRead_write {s : State} {a : Nat} (v : Byte) (hm : MemCanonical s) (ha : a ≤ 0x7FF) (b : Nat) :
    memRead b (s.setMem (s.mem.write a v)) = if b = a then some v else memRead b s := by
  split
  next h => rw [h, memRead_inMemory ha, State.setMem_mem, Memory.read_write hm, if_pos rfl]
  next h => exact memRead_write_ne v hm h

/-- An I/O read is at the address mod 32 (20_memory.md R61, R62). -/
theorem ioRead_eq_getElem_mod (a : Addr) (s : State) (h : a.toNat % 32 < 32) : ioRead a s = s.iobuf[a.toNat % 32] := by
  simp only [ioRead_eq_getElem, ioIndex_toNat]

end Sys2Proof.Machine

namespace Sys2Proof.Proofs

open Sys2Proof.Machine

/-- Settles O36: the write on the bus, then the read-after-write law of canonical memory. -/
theorem wmStoresMbr : Obligations.WmStoresMbr := by
  intro s a hm
  exact ⟨executed (.wm a) s, exec_eq _ s, memRead_write s.mbr hm (addr_toNat_le a), rfl⟩

/-- Settles O37: the byte read is the one of the memory cell. -/
theorem rmLoadsMbr : Obligations.RmLoadsMbr := by
  intro s a
  exact ⟨s.mem.read a.toNat, memRead_inMemory (addr_toNat_le a), exec_eq (.rm a) s⟩

/-- Settles O38: the buffer is read and written at the address mod 32. -/
theorem rioAndWioMoveIobr : Obligations.RioAndWioMoveIobr := by
  intro s a
  refine ⟨fun h => ?_, executed (.wio a) s, exec_eq _ s, fun b => ioRead_ioWrite a b s.iobr s, rfl⟩
  rw [← ioRead_eq_getElem_mod a s h]
  exact exec_eq (.rio a) s

/-- Settles O39: operand[7:0] is the operand field cut to eight bits. -/
theorem wbAndWibTakeTheLowByte : Obligations.WbAndWibTakeTheLowByte := by
  intro s operand
  have himm : operand.setWidth 8 = immediateOf operand := BitVec.setWidth_eq_extractLsb' (by decide)
  rw [himm]
  exact ⟨exec_eq (.wb _) s, exec_eq (.wib _) s⟩

/-- Settles O40: SWAP on the state and on the state it leaves. -/
theorem swapExchangesTheRegisters : Obligations.SwapExchangesTheRegisters := by
  intro s
  exact ⟨exec_eq .swap s, exec_eq .swap (executed .swap s)⟩

end Sys2Proof.Proofs
end

section
/-! The state but for ACC[15:8] (spec/42_alu.md R141, R170). -/

namespace Sys2Proof.Machine

theorem sameButAccHigh_iff {s t : State} : Claims.SameButAccHigh s t ↔
    ∃ v : Word, v.extractLsb' 0 8 = s.acc.extractLsb' 0 8 ∧ t = s.setAcc v :=
  ⟨fun ⟨ht, hlow⟩ => ⟨t.acc, hlow, ht⟩, by rintro ⟨v, hlow, rfl⟩; exact ⟨rfl, hlow⟩⟩

/-- The ten ACC-writing operations read at most ACC[7:0] of ACC (42_alu.md R141). -/
theorem executed_setAcc_writer {i : Instr} {s : State} {v : Word} (hlow : v.extractLsb' 0 8 = s.acc.extractLsb' 0 8)
    (h : i.op ∈ Claims.accWriters) : executed i (s.setAcc v) = executed i s := by
  have hacc : accLow (s.setAcc v) = accLow s := hlow
  cases i with
  | add | sub | mul | and | or | xor | not | shl | shr => simp only [executed, hacc]; rfl
  | wacc => rfl
  | _ => simp [Instr.op, Claims.accWriters] at h

/-- Every other instruction leaves ACC, and reads at most ACC[7:0] of it: RACC does (42_alu.md R170). -/
theorem executed_setAcc {i : Instr} {s : State} {v : Word} (hlow : v.extractLsb' 0 8 = s.acc.extractLsb' 0 8)
    (h : i.op ∉ Claims.accWriters) : executed i (s.setAcc v) = (executed i s).setAcc v := by
  by_cases hr : i.op = .racc
  · have hacc : accLow (s.setAcc v) = accLow s := hlow
    cases i with
    | racc => simp only [executed, hacc]; rfl
    | _ => cases hr
  · exact executed_withAcc s v h hr

theorem executed_sameButAccHigh (i : Instr) {s t : State} (h : Claims.SameButAccHigh s t) :
    Claims.SameButAccHigh (executed i s) (executed i t) := by
  obtain ⟨v, hlow, rfl⟩ := sameButAccHigh_iff.1 h
  by_cases hi : i.op ∈ Claims.accWriters
  · rw [executed_setAcc_writer hlow hi]
    exact ⟨rfl, rfl⟩
  · rw [executed_setAcc hlow hi]
    exact sameButAccHigh_iff.2 ⟨v, by rwa [executed_acc s hi], rfl⟩

theorem sameButAccHigh_kept (c : Config) : KeptByControl c Claims.SameButAccHigh where
  cu h := by rw [h.1]
  result h := by rw [h.1]
  pc h := by rw [h.1]
  opc h := by rw [h.1]
  opr h := by rw [h.1]
  bound h := by rw [h.1]; rfl
  setCu k h := ⟨congrArg (State.setCu · k) h.1, h.2⟩
  setResult r h := ⟨congrArg (State.setResult · r) h.1, h.2⟩
  setFaultAddr a h := ⟨congrArg (State.setFaultAddr · a) h.1, h.2⟩
  recordDiag r h := ⟨congrArg (State.recordDiag · r) h.1, h.2⟩
  countDiag h := ⟨congrArg State.countDiag h.1, h.2⟩
  fetchHighBody h := by
    obtain ⟨v, hlow, rfl⟩ := sameButAccHigh_iff.1 h
    rw [fetchHighBody_eq, fetchHighBody_eq]
    exact ⟨rfl, hlow⟩
  fetchLowBody h := by
    obtain ⟨v, hlow, rfl⟩ := sameButAccHigh_iff.1 h
    rw [fetchLowBody_eq, fetchLowBody_eq]
    exact ⟨rfl, hlow⟩
  decodeBody h := ⟨congrArg Machine.decodeBody h.1, h.2⟩
  executed i h := executed_sameButAccHigh i h

end Sys2Proof.Machine

namespace Sys2Proof.Proofs

open Sys2Proof.Machine

/-- Settles O57: every part of the control unit keeps the states equal but for ACC[15:8]. -/
theorem accHighByteIsUnobservable : Obligations.AccHighByteIsUnobservable :=
  fun c n _ _ h => (sameButAccHigh_kept c).after_runSteps n h

end Sys2Proof.Proofs
end

section
/-! The ALU's 8-bit operands, the primitives and the flags as numbers (spec/42_alu.md R141-R144, R152), and the instructions
that write them. -/

namespace Sys2Proof.Machine

open Sys2Proof.Claims

/-- ACC[7:0] as a narrower value of ACC. -/
theorem accLow_eq_setWidth (s : State) : accLow s = s.acc.setWidth 8 := (BitVec.setWidth_eq_extractLsb' (by decide)).symm

theorem accLow_toNat (s : State) : (accLow s).toNat = s.acc.toNat % 256 := by
  rw [accLow_eq_setWidth, BitVec.toNat_setWidth]

theorem zext16_toNat (v : Byte) : (zext16 v).toNat = v.toNat := by
  have := v.isLt
  rw [zext16, BitVec.toNat_setWidth]
  omega

theorem twosComplement8_eq_neg (x : Byte) : twosComplement8 x = -x := (BitVec.neg_eq_not_add x).symm

/-- The signed value of a negated byte: -128 has no counterpart (42_alu.md R161). -/
theorem toInt_neg_byte (b : Byte) : (-b).toInt = if b = 0x80#8 then -128 else -b.toInt := by
  split
  next h => rw [h]; rfl
  next h => exact BitVec.toInt_neg_of_ne_intMin h

theorem sum9_toNat (a b : Byte) : (sum9 a b).toNat = a.toNat + b.toNat := by
  simp only [sum9, BitVec.toNat_add, BitVec.toNat_setWidth]
  omega

theorem add8_eq_add (a b : Byte) : add8 a b = a + b := by
  apply BitVec.eq_of_toNat_eq
  simp [add8, sum9_toNat]

theorem getLsbD_seven (v : Byte) : v.getLsbD 7 = v.msb := (BitVec.msb_eq_getLsbD_last v).symm

theorem getLsbD_seven_iff (v : Byte) : v.getLsbD 7 = true ↔ 128 ≤ v.toNat := by
  rw [getLsbD_seven, BitVec.msb_eq_decide, decide_eq_true_iff]

theorem beq_zero_iff (v : Byte) : (v == 0x00#8) = true ↔ v.toNat = 0 := by
  rw [beq_iff_eq, ← BitVec.toNat_inj]
  rfl

theorem add8Flags_cf_iff (a b : Byte) : (add8Flags a b).cf = true ↔ 256 ≤ a.toNat + b.toNat := by
  have htop : (sum9 a b).getLsbD 8 = (sum9 a b).msb := (BitVec.msb_eq_getLsbD_last _).symm
  rw [add8Flags, htop, BitVec.msb_eq_decide, decide_eq_true_iff, sum9_toNat]

theorem add8Flags_of_iff_bits (a b : Byte) : (add8Flags a b).of = true ↔
    a.getLsbD 7 = b.getLsbD 7 ∧ (add8 a b).getLsbD 7 ≠ a.getLsbD 7 := by
  simp [add8Flags]

/-- OF is the signed overflow of the addition (42_alu.md R143). -/
theorem add8Flags_of_iff (a b : Byte) : (add8Flags a b).of = true ↔ OutsideByte (a.toInt + b.toInt) := by
  have hof : (add8Flags a b).of = a.saddOverflow b := by
    simp only [add8Flags, BitVec.saddOverflow_eq, getLsbD_seven, add8_eq_add]
    rfl
  rw [hof, BitVec.saddOverflow, Bool.or_eq_true, decide_eq_true_iff, decide_eq_true_iff, OutsideByte]
  omega

theorem logicFlags_eq (r : Byte) : logicFlags r = ⟨decide (r = 0#8), false, r.msb, false⟩ := by
  rw [← getLsbD_seven]
  rfl

/-- A word differs from its sign-extended low byte when its signed value is no byte's (42_alu.md R152). -/
theorem exceedsByte_iff (p : Word) : exceedsByte p = true ↔ OutsideByte p.toInt := by
  have hext : ((p.extractLsb' 0 8).signExtend 16).toInt = p.toInt.bmod 256 := by
    rw [← BitVec.setWidth_eq_extractLsb' (by decide), BitVec.toInt_signExtend, BitVec.toInt_setWidth,
      BitVec.toInt_eq_toNat_bmod, Int.bmod_bmod_of_dvd (by decide), Int.bmod_bmod_of_dvd (by decide)]
    rfl
  rw [exceedsByte, bne_iff_ne, ne_eq, ← BitVec.toInt_inj, hext, OutsideByte, Int.bmod_def]
  omega

theorem productFlags_zf_iff (p : Word) : (productFlags p).zf = true ↔ p = 0x0000#16 := beq_iff_eq

theorem productFlags_sf_iff (p : Word) : (productFlags p).sf = true ↔ p.toInt < 0 := by
  have htop : p.getLsbD 15 = p.msb := (BitVec.msb_eq_getLsbD_last p).symm
  rw [productFlags, htop, BitVec.msb_eq_toInt, decide_eq_true_iff]

end Sys2Proof.Machine

namespace Sys2Proof.Proofs

open Sys2Proof.Machine

/-- Settles O42: ACC and the flags are those of the addition of ACC[7:0] and MBR. -/
theorem addWritesTheSum : Obligations.AddWritesTheSum := by
  intro s
  have hsum : (add8 (accLow s) s.mbr).toNat = (s.acc.toNat % 256 + s.mbr.toNat) % 256 := by
    rw [add8_eq_add, BitVec.toNat_add, accLow_toNat]
  refine ⟨executed .add s, exec_eq _ s, rfl, ?acc, ?zf, ?sf, ?cf, ?ofBits, ?of⟩
  case acc => exact (zext16_toNat _).trans hsum
  case zf => exact hsum ▸ beq_zero_iff (add8 (accLow s) s.mbr)
  case sf => exact hsum ▸ getLsbD_seven_iff (add8 (accLow s) s.mbr)
  case cf => exact accLow_toNat s ▸ add8Flags_cf_iff (accLow s) s.mbr
  case ofBits => simpa [executed, zext16, accLow] using add8Flags_of_iff_bits (accLow s) s.mbr
  case of => exact accLow_eq_setWidth s ▸ add8Flags_of_iff (accLow s) s.mbr

/-- Settles O43: ACC and the flags are those of the addition of the two's complement of MBR. -/
theorem subWritesTheDifference : Obligations.SubWritesTheDifference := by
  intro s
  have hneg : (twosComplement8 s.mbr).toNat = (256 - s.mbr.toNat) % 256 := by
    rw [twosComplement8_eq_neg, BitVec.toNat_neg]
  have hlow := accLow_toNat s
  have hmbr := s.mbr.isLt
  have hdiff : (add8 (accLow s) (twosComplement8 s.mbr)).toNat = (s.acc.toNat % 256 + (256 - s.mbr.toNat)) % 256 := by
    rw [add8_eq_add, BitVec.toNat_add, hlow, hneg, Nat.add_mod_mod]
  refine ⟨executed .sub s, exec_eq _ s, rfl, ?acc, ?zf, ?sf, ?cf, ?of⟩
  case acc => exact (zext16_toNat _).trans hdiff
  case zf =>
    refine (beq_zero_iff _).trans ?_
    rw [hdiff]
    omega
  case sf => simp [executed, zext16, add8Flags]
  case cf =>
    refine (add8Flags_cf_iff _ _).trans ?_
    rw [hlow, hneg]
    omega
  case of =>
    rw [← toInt_neg_byte, ← twosComplement8_eq_neg, ← accLow_eq_setWidth]
    exact add8Flags_of_iff _ _

/-- Settles O49: the flags of the product by its signed value. -/
theorem mulWritesTheBoothProduct : Obligations.MulWritesTheBoothProduct := by
  intro s
  rw [← accLow_eq_setWidth]
  exact ⟨productFlags (booth (accLow s) s.mbr), exec_eq .mul s, productFlags_zf_iff _, productFlags_sf_iff _,
    exceedsByte_iff _, rfl⟩

/-- Settles O50: the diagnostic of ALU.execute, and the frame of `executed`. -/
theorem unknownAluOpIsADiagnostic : Obligations.UnknownAluOpIsADiagnostic := by
  refine ⟨fun op s h => ?_, fun i s t h => ?_⟩
  · cases op with
    | add | sub | mul | and | or | xor | not | shl | shr | wacc | racc => simp at h
    | _ => rfl
  · cases exec_next_iff.1 h
    exact ⟨executed_diag i s, executed_diagLog i s⟩

/-- Settles O41: the two's complement is the negation of the library. -/
theorem twosComplementIsNegation : Obligations.TwosComplementIsNegation := by
  intro x
  simp only [twosComplement8_eq_neg]
  exact ⟨BitVec.toNat_neg x, BitVec.neg_neg⟩

/-- Settles O44: each operation writes its result and that result's logic flags. -/
theorem logicOperationsWriteAccAndFlags : Obligations.LogicOperationsWriteAccAndFlags := by
  intro s
  simp only [exec_eq, executed, accLow_eq_setWidth, logicFlags_eq]
  exact ⟨rfl, rfl, rfl, rfl⟩

/-- Settles O45: a shift left doubles mod 256, a shift right halves. -/
theorem shiftsMoveByOneBit : Obligations.ShiftsMoveByOneBit := by
  intro s
  have hlow := accLow_toNat s
  have hl : (accLow s <<< 1).toNat = 2 * (s.acc.toNat % 256) % 256 := by
    rw [BitVec.toNat_shiftLeft, Nat.shiftLeft_eq, hlow, Nat.mul_comm]
  have hr : (accLow s >>> 1).toNat = s.acc.toNat % 256 / 2 := by
    rw [BitVec.toNat_ushiftRight, Nat.shiftRight_eq_div_pow, hlow]
  refine ⟨⟨executed .shl s, exec_eq _ s, rfl, (zext16_toNat _).trans hl, ?shlCf, ?shlZf, ?shlSf, rfl⟩,
    ⟨executed .shr s, exec_eq _ s, rfl, (zext16_toNat _).trans hr, ?shrCf, ?shrZf, ?shrSf, rfl⟩⟩
  case shlCf => exact hlow ▸ getLsbD_seven_iff (accLow s)
  case shlZf => exact zext16_toNat (accLow s <<< 1) ▸ beq_zero_iff (accLow s <<< 1)
  case shlSf => exact zext16_toNat (accLow s <<< 1) ▸ getLsbD_seven_iff (accLow s <<< 1)
  case shrCf => simp [executed, shiftFlags, accLow, BitVec.getLsbD]
  case shrZf => exact zext16_toNat (accLow s >>> 1) ▸ beq_zero_iff (accLow s >>> 1)
  case shrSf => simp [executed, shiftFlags]

/-- Settles O46: WACC zero-extends MBR into ACC, RACC copies ACC[7:0] to BUS and MBR. -/
theorem waccAndRaccMoveTheLowByte : Obligations.WaccAndRaccMoveTheLowByte := by
  intro s
  rw [← accLow_eq_setWidth]
  exact ⟨exec_eq .wacc s, exec_eq .racc s⟩

end Sys2Proof.Proofs
end

section
/-! The Booth multiplier (spec/42_alu.md R150, R151): what one iteration does to the 17-bit value {A, Q, Q₋₁} and to the signed
value of {A, Q}, and by induction over the iterations the product. -/

namespace Sys2Proof.Machine

open Sys2Proof.Claims

/-- {A, Q, Q₋₁}. -/
def BoothRegs.joined (r : BoothRegs) : BitVec 17 := r.a ++ r.q ++ BitVec.ofBool r.qm1

/-- The signed value of {A, Q}. -/
def BoothRegs.value (r : BoothRegs) : Int := 256 * r.a.toInt + r.q.toNat

/-- The recoded add as the choice of R150. -/
theorem boothAdd_eq_ite (m : Byte) (r : BoothRegs) : boothAdd m r =
    if r.q.getLsbD 0 = true ∧ r.qm1 = false then r.a - m
    else if r.q.getLsbD 0 = false ∧ r.qm1 = true then r.a + m else r.a := by
  rw [boothAdd, twosComplement8_eq_neg, ← BitVec.sub_eq_add_neg]
  cases r.q.getLsbD 0 <;> cases r.qm1 <;> rfl

theorem BoothRegs.joined_getLsbD (r : BoothRegs) (i : Nat) : r.joined.getLsbD i =
    if i < 1 then r.qm1 else if i < 9 then r.q.getLsbD (i - 1) else r.a.getLsbD (i - 9) := by
  have hlast : (BitVec.ofBool r.qm1).getLsbD i = (decide (i = 0) && r.qm1) := BitVec.getLsbD_ofBool _ _
  rw [joined, BitVec.getLsbD_append, BitVec.getLsbD_append, hlast]
  grind

/-- A byte moved down by one bit with b shifted in at the top. -/
theorem shiftedIn_getLsbD (b : Bool) (x : Byte) (i : Nat) :
    (BitVec.ofBool b ++ x.extractLsb' 1 7 : Byte).getLsbD i =
      if i < 7 then x.getLsbD (i + 1) else decide (i = 7) && b := by
  rw [BitVec.getLsbD_append, BitVec.getLsbD_ofBool, BitVec.getLsbD_extractLsb', Nat.add_comm 1 i]
  by_cases h : i < 7
  · simp [h]
  · have htop : (i - 7 = 0) = (i = 7) := propext (by omega)
    simp only [h, htop, if_false]

theorem boothStep_a_getLsbD (m : Byte) (r : BoothRegs) (i : Nat) : (boothStep m r).a.getLsbD i =
    if i < 7 then (boothAdd m r).getLsbD (i + 1) else decide (i = 7) && (boothAdd m r).getLsbD 7 :=
  shiftedIn_getLsbD _ _ _

theorem boothStep_q_getLsbD (m : Byte) (r : BoothRegs) (i : Nat) : (boothStep m r).q.getLsbD i =
    if i < 7 then r.q.getLsbD (i + 1) else decide (i = 7) && (boothAdd m r).getLsbD 0 :=
  shiftedIn_getLsbD _ _ _

@[simp] theorem boothStep_qm1 (m : Byte) (r : BoothRegs) : (boothStep m r).qm1 = r.q.getLsbD 0 := rfl

/-- After the recoded add, an iteration is the arithmetic shift right by one of {A, Q, Q₋₁}. -/
theorem boothStep_joined (m : Byte) (r : BoothRegs) :
    (boothStep m r).joined = ({ r with a := boothAdd m r } : BoothRegs).joined.sshiftRight 1 := by
  apply BitVec.eq_of_getLsbD_eq
  intro i hi
  rw [BitVec.getLsbD_sshiftRight, BitVec.msb_eq_getLsbD_last]
  simp only [BoothRegs.joined_getLsbD, boothStep_qm1, boothStep_a_getLsbD, boothStep_q_getLsbD]
  grind

theorem BoothRegs.joined_toInt (r : BoothRegs) : r.joined.toInt = 2 * r.value + r.qm1.toNat := by
  have happ : (r.a ++ r.q).toInt = r.value := BitVec.toInt_append
  rw [joined, BitVec.toInt_append, happ, BitVec.toNat_ofBool]
  rfl

/-- One iteration on the signed value: the bit shifted out of Q is the remainder of the halving. -/
theorem boothStep_value (m : Byte) (r : BoothRegs) :
    2 * (boothStep m r).value + (r.q.getLsbD 0).toNat = 256 * (boothAdd m r).toInt + r.q.toNat := by
  have hshift := congrArg BitVec.toInt (boothStep_joined m r)
  rw [BitVec.toInt_sshiftRight, Int.shiftRight_eq_div_pow, BoothRegs.joined_toInt, BoothRegs.joined_toInt,
    boothStep_qm1] at hshift
  simp only [BoothRegs.value] at hshift ⊢
  have := r.qm1.toNat_lt
  omega

theorem boothStep_a_toInt (m : Byte) (r : BoothRegs) : (boothStep m r).a.toInt = (boothAdd m r).toInt / 2 := by
  have hvalue := boothStep_value m r
  have := (boothStep m r).q.isLt
  have := r.q.isLt
  have := (r.q.getLsbD 0).toNat_lt
  simp only [BoothRegs.value] at hvalue
  omega

/-- Whichever bit Q holds next, the recoded add of the multiplicand μ stays in a signed byte. -/
def BoothRegs.Fits (μ : Int) (r : BoothRegs) : Prop :=
  ¬ OutsideByte (r.a.toInt + r.qm1.toNat * μ) ∧ ¬ OutsideByte (r.a.toInt + r.qm1.toNat * μ - μ)

theorem toInt_ofInt_byte {x : Int} (h : ¬ OutsideByte x) : (BitVec.ofInt 8 x).toInt = x := by
  unfold OutsideByte at h
  exact BitVec.toInt_ofInt_eq_self (by decide) (by omega) (by omega)

section
variable {μ : Int} {m : Byte} {r : BoothRegs}

theorem boothAdd_eq_ofInt (hm : BitVec.ofInt 8 μ = m) :
    boothAdd m r = BitVec.ofInt 8 (r.a.toInt + r.qm1.toNat * μ - (r.q.getLsbD 0).toNat * μ) := by
  have ha : BitVec.ofInt 8 r.a.toInt = r.a := BitVec.ofInt_toInt
  rw [boothAdd_eq_ite]
  cases r.q.getLsbD 0 <;> cases r.qm1 <;> simp [sub_eq_add_neg, BitVec.ofInt_add, BitVec.ofInt_neg, ha, hm]

theorem boothAdd_toInt (hm : BitVec.ofInt 8 μ = m) (hr : r.Fits μ) :
    (boothAdd m r).toInt = r.a.toInt + r.qm1.toNat * μ - (r.q.getLsbD 0).toNat * μ := by
  obtain ⟨hkeep, hsub⟩ := hr
  rw [boothAdd_eq_ofInt hm, toInt_ofInt_byte]
  cases r.q.getLsbD 0 with
  | false => simpa using hkeep
  | true => simpa using hsub

theorem boothInit_fits (hlo : -127 ≤ μ) (hhi : μ ≤ 128) (q : Byte) : (boothInit q).Fits μ := by
  have ha : (boothInit q).a.toInt = 0 := rfl
  have he : (boothInit q).qm1.toNat = 0 := rfl
  rw [BoothRegs.Fits, ha, he, OutsideByte, OutsideByte]
  omega

/-- For a multiplicand in [-127, 128] no iteration overflows the next. -/
theorem boothStep_fits (hm : BitVec.ofInt 8 μ = m) (hlo : -127 ≤ μ) (hhi : μ ≤ 128) (hr : r.Fits μ) :
    (boothStep m r).Fits μ := by
  have hadd := boothAdd_toInt hm hr
  obtain ⟨hkeep, hsub⟩ := hr
  unfold BoothRegs.Fits
  unfold OutsideByte at *
  rw [boothStep_a_toInt, hadd, boothStep_qm1]
  cases r.q.getLsbD 0 with
  | false => simp only [Bool.toNat_false]; omega
  | true => simp only [Bool.toNat_true]; omega

/-- The signed value with the multiplicand that the pending Q₋₁ still has to add. -/
def BoothRegs.pending (μ : Int) (r : BoothRegs) : Int := r.value + 256 * (r.qm1.toNat * μ)

/-- One iteration halves the pending value and takes in one bit of the multiplier. -/
theorem boothStep_pending (hm : BitVec.ofInt 8 μ = m) (hr : r.Fits μ) :
    2 * (boothStep m r).pending μ = r.pending μ + (256 * μ - 1) * (r.q.getLsbD 0).toNat := by
  have hvalue := boothStep_value m r
  rw [boothAdd_toInt hm hr] at hvalue
  simp only [BoothRegs.pending, boothStep_qm1]
  rw [mul_add, ← sub_eq_iff_eq_add.2 hvalue.symm]
  simp only [BoothRegs.value]
  ring

theorem boothLoop_eq_iterate (m : Byte) (n : Nat) (r : BoothRegs) : boothLoop m n r = (boothStep m)^[n] r := by
  induction n generalizing r with
  | zero => rfl
  | succ n ih => exact ih _

theorem boothLoop_succ (m : Byte) (n : Nat) (r : BoothRegs) :
    boothLoop m (n + 1) r = boothStep m (boothLoop m n r) := by
  rw [boothLoop_eq_iterate, boothLoop_eq_iterate, Function.iterate_succ_apply']

/-- Each iteration moves the multiplier down by one bit. -/
theorem boothLoop_q_getLsbD {n i : Nat} (h : n + i < 8) : (boothLoop m n r).q.getLsbD i = r.q.getLsbD (n + i) := by
  induction n generalizing i with
  | zero => rw [Nat.zero_add]; rfl
  | succ n ih =>
    rw [boothLoop_succ, boothStep_q_getLsbD, if_pos (by omega), ih (by omega), Nat.add_right_comm, Nat.add_assoc]

theorem boothLoop_fits (hm : BitVec.ofInt 8 μ = m) (hlo : -127 ≤ μ) (hhi : μ ≤ 128) (hr : r.Fits μ) (n : Nat) :
    (boothLoop m n r).Fits μ := by
  induction n with
  | zero => exact hr
  | succ n ih => rw [boothLoop_succ]; exact boothStep_fits hm hlo hhi ih

/-- n iterations take in the low n bits of the multiplier. -/
theorem boothLoop_pending (hm : BitVec.ofInt 8 μ = m) (hlo : -127 ≤ μ) (hhi : μ ≤ 128) (hr : r.Fits μ) {n : Nat}
    (hn : n ≤ 8) : 2 ^ n * (boothLoop m n r).pending μ = r.pending μ + (256 * μ - 1) * (r.q.toNat % 2 ^ n : Nat) := by
  induction n with
  | zero => simp [boothLoop, Nat.mod_one]
  | succ n ih =>
    have hstep := boothStep_pending hm (boothLoop_fits hm hlo hhi hr n)
    rw [boothLoop_q_getLsbD (by omega), Nat.add_zero, BitVec.getLsbD, Nat.toNat_testBit] at hstep
    rw [boothLoop_succ, Nat.mod_pow_succ, pow_succ, mul_assoc, hstep, mul_add, ih (by omega)]
    push_cast
    ring

end

/-- Booth multiplies by the multiplicand's representative in [-127, 128]. -/
theorem booth_eq_ofInt {μ : Int} {m : Byte} (hm : BitVec.ofInt 8 μ = m) (hlo : -127 ≤ μ) (hhi : μ ≤ 128) (q : Byte) :
    booth m q = BitVec.ofInt 16 (μ * q.toInt) := by
  have hloop := boothLoop_pending hm hlo hhi (boothInit_fits hlo hhi q) le_rfl
  have hsign : (boothLoop m 8 (boothInit q)).qm1 = q.msb := by
    rw [boothLoop_succ, boothStep_qm1, boothLoop_q_getLsbD (by omega), BitVec.msb_eq_getLsbD_last]
    rfl
  have hvalue : (boothLoop m 8 (boothInit q)).value = μ * q.toInt := by
    have hinit : (boothInit q).pending μ = q.toNat := by simp [BoothRegs.pending, BoothRegs.value, boothInit]
    have hq : (boothInit q).q.toNat % 2 ^ 8 = q.toNat := Nat.mod_eq_of_lt q.isLt
    have hsigned : q.toInt = q.toNat - 256 * q.msb.toNat := by
      rw [BitVec.toInt_eq_msb_cond]
      cases q.msb <;> simp
    rw [hinit, hq, BoothRegs.pending, hsign] at hloop
    rw [hsigned]
    linarith
  calc booth m q
      = BitVec.ofInt 16 (booth m q).toInt := BitVec.ofInt_toInt.symm
    _ = BitVec.ofInt 16 (boothLoop m 8 (boothInit q)).value := congrArg _ BitVec.toInt_append
    _ = BitVec.ofInt 16 (μ * q.toInt) := by rw [hvalue]

end Sys2Proof.Machine

namespace Sys2Proof.Proofs

open Sys2Proof.Machine

/-- Settles O47: the recoded add as R150's choice, then the shift; the loop is the iterate. -/
theorem boothStepIsAddThenArithmeticShift : Obligations.BoothStepIsAddThenArithmeticShift := by
  refine ⟨fun m r => ?_, fun m q => ?_⟩
  · rw [← boothAdd_eq_ite]
    exact boothStep_joined m r
  · rw [booth, boothLoop_eq_iterate]
    rfl

/-- Settles O48: the representative of M in [-127, 128] is s8(M), but 128 for M = 0x80. -/
theorem boothProductIsExactButForOneMultiplicand : Obligations.BoothProductIsExactButForOneMultiplicand := by
  intro m q
  have hbooth : booth 0x80#8 q = BitVec.ofInt 16 (128 * q.toInt) := booth_eq_ofInt (by decide) (by decide) (by decide) q
  refine ⟨fun h => ?_, ?_⟩
  · by_cases hm : m = 0x80#8
    · obtain rfl := h.resolve_left (not_not_intro hm)
      rw [hm, hbooth]
      decide
    · have hne : m.toInt ≠ -128 := fun heq => hm (BitVec.eq_of_toInt_eq heq)
      have hlo := m.le_toInt
      have hhi := m.toInt_lt
      exact booth_eq_ofInt BitVec.ofInt_toInt (by omega) (by omega) q
  · rintro rfl hq
    have hne : q.toInt ≠ 0 := fun heq => hq (BitVec.eq_of_toInt_eq heq)
    have hlo := q.le_toInt
    have hhi := q.toInt_lt
    refine ⟨hbooth, fun heq => ?_⟩
    rw [hbooth] at heq
    have hint := congrArg BitVec.toInt heq
    have hmin : (0x80#8 : Byte).toInt = -128 := by decide
    rw [hmin, BitVec.toInt_ofInt_eq_self (by decide) (by omega) (by omega),
      BitVec.toInt_ofInt_eq_self (by decide) (by omega) (by omega)] at hint
    omega

end Sys2Proof.Proofs
end

section
/-! The branches by what their flags mean, SUB's flags as a comparison, and the step of EOP (spec/43_control_flow.md R190-R196,
42_alu.md R161). -/

namespace Sys2Proof

theorem Instr.op_eq_eop_iff {i : Instr} : i.op = .eop ↔ i = .eop := by
  cases i <;> simp [Instr.op]

end Sys2Proof

namespace Sys2Proof.Machine

section
variable {s : State} {p : Prop} [Decidable p]

/-- A branch that is taken when p holds. -/
theorem branchIf_eq_ite {taken : Bool} (h : taken = true ↔ p) (a : Addr) (s : State) :
    branchIf taken a s = if p then { s with pc := a.setWidth 12 } else s := by
  obtain ⟨ht, hb⟩ | ⟨hf, hb⟩ := branchIf_cases taken a s
  · exact hb.trans (if_pos (h.1 ht)).symm
  · exact hb.trans (if_neg (mt h.2 (ne_true_of_eq_false hf))).symm

theorem exec_bre (h : s.flags.zf = true ↔ p) (a : Addr) :
    exec (.bre a) s = .next (if p then { s with pc := a.setWidth 12 } else s) :=
  congrArg _ (branchIf_eq_ite h a s)

theorem exec_brne (h : s.flags.zf = false ↔ p) (a : Addr) :
    exec (.brne a) s = .next (if p then { s with pc := a.setWidth 12 } else s) :=
  congrArg _ (branchIf_eq_ite ((Bool.not_eq_true' _).to_iff.trans h) a s)

theorem exec_brlt (h : s.flags.sf = true ↔ p) (a : Addr) :
    exec (.brlt a) s = .next (if p then { s with pc := a.setWidth 12 } else s) :=
  congrArg _ (branchIf_eq_ite h a s)

theorem exec_brgt (h : s.flags.sf = false ∧ s.flags.zf = false ↔ p) (a : Addr) :
    exec (.brgt a) s = .next (if p then { s with pc := a.setWidth 12 } else s) := by
  have htaken : (!s.flags.sf && !s.flags.zf) = true ↔ p := by simpa using h
  exact congrArg _ (branchIf_eq_ite htaken a s)

end

/-- Without overflow SF is the sign of the exact sum (42_alu.md R143). -/
theorem add8Flags_sf_iff {a b : Byte} (h : (add8Flags a b).of = false) :
    (add8Flags a b).sf = true ↔ a.toInt + b.toInt < 0 := by
  have hfits : ¬ Claims.OutsideByte (a.toInt + b.toInt) := mt (add8Flags_of_iff a b).2 (ne_true_of_eq_false h)
  have hsum : (a + b).toInt = a.toInt + b.toInt := by
    rw [← toInt_ofInt_byte hfits, BitVec.ofInt_add, BitVec.ofInt_toInt, BitVec.ofInt_toInt]
  rw [← hsum, add8Flags, add8_eq_add, getLsbD_seven, BitVec.msb_eq_toInt, decide_eq_true_iff]

/-- ZF after a subtraction is equality, whether or not it overflowed (42_alu.md R161). -/
theorem subFlags_zf_iff (a b : Byte) : (add8Flags a (twosComplement8 b)).zf = true ↔ a = b := by
  rw [add8Flags, beq_iff_eq, add8_eq_add, twosComplement8_eq_neg]
  exact add_neg_eq_zero

/-- SF after a subtraction without overflow is the signed order, but for b = -128, which has no negation (42_alu.md R161). -/
theorem subFlags_sf_iff {a b : Byte} (hb : b ≠ 0x80#8) (h : (add8Flags a (twosComplement8 b)).of = false) :
    (add8Flags a (twosComplement8 b)).sf = true ↔ a.toInt < b.toInt := by
  rw [add8Flags_sf_iff h, twosComplement8_eq_neg, toInt_neg_byte, if_neg hb]
  omega

/-- A step whose word decodes to EOP leaves what EOP does to the fetched state, in TERMINATE (40_fetch_decode.md R107). -/
theorem stepWith_eop {c : Config} {s : State} (h : Claims.FetchReady c s)
    (hd : decodeWord c.opcodeMap (Claims.wordAt s s.pc.toNat) = .ok .eop) :
    stepWith c s = .next (executed .eop (Claims.fetched s)) := by
  have hf : decodeFields c.opcodeMap (Claims.fetched s).opc (Claims.fetched s).opr = some .eop :=
    decodeWord_eq_ok_iff.1 hd
  rw [stepWith_eq_cuExecute_fetched h, cuExecute_some hf, afterExecute_eop]

end Sys2Proof.Machine

namespace Sys2Proof.Proofs

open Sys2Proof.Machine

/-- Settles O52: ZF and SF of the subtraction are the comparison that each branch names. -/
theorem branchesAfterSubCompare : Obligations.BranchesAfterSubCompare := by
  intro s t a h
  rw [← accLow_eq_setWidth]
  have hflags : t.flags = add8Flags (accLow s) (twosComplement8 s.mbr) := by
    rw [← exec_next_iff.1 h]
    rfl
  have hzf : t.flags.zf = true ↔ accLow s = s.mbr := hflags ▸ subFlags_zf_iff _ _
  have hne : t.flags.zf = false ↔ accLow s ≠ s.mbr := by rw [ne_eq, ← hzf, Bool.not_eq_true]
  refine ⟨exec_bre hzf a, exec_brne hne a, fun hmbr hof => ?_⟩
  have hlt : t.flags.sf = true ↔ (accLow s).toInt < s.mbr.toInt := hflags ▸ subFlags_sf_iff hmbr (hflags ▸ hof)
  have hgt : t.flags.sf = false ∧ t.flags.zf = false ↔ s.mbr.toInt < (accLow s).toInt := by
    rw [hne, ← Bool.not_eq_true, hlt, ne_eq, ← BitVec.toInt_inj]
    omega
  exact ⟨exec_brlt hlt a, exec_brgt hgt a⟩

/-- Settles O51: each branch on its own flags. -/
theorem branchesTestTheFlags : Obligations.BranchesTestTheFlags := by
  intro s a
  exact ⟨exec_eq (.br a) s, exec_bre .rfl a, exec_brne .rfl a, exec_brlt .rfl a, exec_brgt .rfl a⟩

/-- Settles O53: EOP on the fetched state ends the run, and every other instruction leaves RESULT. -/
theorem eopEndsTheRun : Obligations.EopEndsTheRun := by
  refine ⟨exec_eq .eop, fun c s h hd => ⟨stepWith_eop h hd, cuSteps_ended (by simp) 3⟩, fun i s t h hs ht => ?_⟩
  rw [← exec_next_iff.1 h] at ht
  by_contra hi
  rw [executed_result s (mt Instr.op_eq_eop_iff.1 hi)] at ht
  exact hs ht

end Sys2Proof.Proofs
end

section
/-! Errors and outcomes (spec/60_exceptions.md R212-R228): how a state step leaves the run, the exact ends of an instruction
step, and what the host receives. -/

namespace Sys2Proof.Machine

open Sys2Proof.Claims

/-- Only an unassigned code decodes to no instruction (30_encoding.md R86, R87). -/
theorem decodeFields_eq_none_iff {m : OpcodeMap} {opc : Opcode} {opr : Addr} :
    decodeFields m opc opr = none ↔ Unassigned m opc := by
  rw [unassigned_iff, decodeFields]
  cases decodeOp m opc <;> simp

theorem not_belowBound_iff {c : Config} {s : State} :
    ¬ BelowBound c s ↔ ∃ n, c.maxInstr = some n ∧ n ≤ s.icount := by
  simp [BelowBound]

/-- How a state step leaves the run: it goes on, or it has ended with one of the four outcomes, each from its one cause
(60_exceptions.md R212, R216-R218). `cuStep_leaves` ties it to `cuStep`. -/
inductive StepLeaves (c : Config) (s : State) : State → Prop
  | running {t : State} (hr : t.result = .running) (hc : t.cu ≠ .terminate) : StepLeaves c s t
  | success (hc : s.cu = .execute) (hd : decodeFields c.opcodeMap s.opc s.opr = some .eop) :
      StepLeaves c s ((s.setResult .success).setCu .terminate)
  | addressFault (hc : s.cu = .fetchHigh ∨ s.cu = .fetchLow) (hp : 0x7FF < s.pc.toNat) :
      StepLeaves c s ((s.setFaultAddr s.pc).setResult .addressFault)
  | runaway (hc : s.cu = .fetchHigh) (hb : ¬ BelowBound c s) : StepLeaves c s (s.setResult .runaway)
  | invalidOpcode (hc : s.cu = .execute) (hm : c.decodeMode = .strict) (hun : Unassigned c.opcodeMap s.opc) :
      StepLeaves c s (s.countDiag.setResult .invalidOpcode)

section
variable {c : Config} {s t : State}

/-- FETCH_HIGH: the host bound, the range check, or the fetch (40_fetch_decode.md R101, R102; 60_exceptions.md R218). -/
theorem cuFetchHigh_leaves (hr : s.result = .running) (hc : s.cu = .fetchHigh) : StepLeaves c s (cuFetchHigh c s) := by
  unfold cuFetchHigh
  split
  · next hb => exact .runaway hc fun h => by simp [boundReached_of_below h] at hb
  · split
    · next hp => rw [raiseAddressOutOfRange_pc]; exact .addressFault (.inl hc) (of_decide_eq_true hp)
    · exact .running ((fetchHighBody_result s).trans hr) (by simp [fetchHighBody])

/-- FETCH_LOW: the range check or the fetch (40_fetch_decode.md R101, R103). -/
theorem cuFetchLow_leaves (hr : s.result = .running) (hc : s.cu = .fetchLow) : StepLeaves c s (cuFetchLow s) := by
  unfold cuFetchLow
  split
  · next hp => rw [raiseAddressOutOfRange_pc]; exact .addressFault (.inr hc) (of_decide_eq_true hp)
  · exact .running ((fetchLowBody_result s).trans hr) (by simp [fetchLowBody])

/-- EXECUTE: EOP, any other instruction, or an unassigned code in either mode (40_fetch_decode.md R105-R107). -/
theorem cuExecute_leaves (hr : s.result = .running) (hc : s.cu = .execute) (h : cuExecute c s = .next t) :
    StepLeaves c s t := by
  cases hd : decodeFields c.opcodeMap s.opc s.opr with
  | some i =>
    rw [cuExecute_some hd] at h
    cases h
    by_cases hi : i.op = .eop
    · obtain rfl := Instr.op_eq_eop_iff.1 hi
      rw [afterExecute_eop]
      exact .success hc hd
    · rw [afterExecute_executed hi hr hc]
      exact .running ((executed_result s hi).trans hr) (by simp)
  | none =>
    rw [cuExecute_none hd] at h
    cases h
    cases hm : c.decodeMode with
    | permissive => exact .running hr (by simp [unrecognized])
    | strict => exact .invalidOpcode hc hm (decodeFields_eq_none_iff.1 hd)

/-- What a state step can leave (60_exceptions.md R212, R216-R218). -/
theorem cuStep_leaves (h : cuStep c s = .next t) : StepLeaves c s t := by
  obtain ⟨-, he⟩ | ⟨hr, hc, he⟩ | ⟨hr, hc, he⟩ | ⟨hr, hc, he⟩ | ⟨hr, hc, he⟩ | ⟨-, -, he⟩ := cuStep_cases c s <;>
    rw [he] at h
  · cases h
  · cases h; exact cuFetchHigh_leaves hr hc
  · cases h; exact cuFetchLow_leaves hr hc
  · cases h; exact .running hr (by simp [decodeBody])
  · exact cuExecute_leaves hr hc h
  · cases h

/-- While the run goes on, every state but TERMINATE has a step (60_exceptions.md R225). -/
theorem exists_cuStep (c : Config) (hr : s.result = .running) (hc : s.cu ≠ .terminate) : ∃ t, cuStep c s = .next t := by
  obtain ⟨hn, -⟩ | ⟨-, -, he⟩ | ⟨-, -, he⟩ | ⟨-, -, he⟩ | ⟨-, -, he⟩ | ⟨-, hn, -⟩ := cuStep_cases c s
  · exact absurd hr hn
  · exact ⟨_, he⟩
  · exact ⟨_, he⟩
  · exact ⟨_, he⟩
  · rw [he]
    cases hd : decodeFields c.opcodeMap s.opc s.opr with
    | some i => exact ⟨_, cuExecute_some hd⟩
    | none => exact ⟨_, cuExecute_none hd⟩
  · exact absurd hn hc

/-- A step that does not end the instruction leaves a state that has a step, so the instruction step never faults
(60_exceptions.md R225). -/
theorem exists_cuSteps (c : Config) (n : Nat) (hr : s.result = .running) (hc : s.cu ≠ .terminate) :
    ∃ t, cuSteps c n s = .next t := by
  induction n generalizing s with
  | zero => exact ⟨s, rfl⟩
  | succ n ih =>
    obtain ⟨t, ht⟩ := exists_cuStep c hr hc
    cases cuStep_leaves ht with
    | running hrt hterm =>
      by_cases hct : t.cu = .fetchHigh
      · exact ⟨t, by simp [cuSteps, ht, atBoundary, hct]⟩
      · rw [cuSteps_inside n ht hrt hct]
        exact ih hrt hterm
    | success | addressFault | runaway | invalidOpcode => exact ⟨_, cuSteps_ends n ht (by simp)⟩

/-- An instruction step is taken only while the run goes on (60_exceptions.md R220). -/
theorem running_of_stepWith_next (h : stepWith c s = .next t) : s.result = .running := by
  by_contra hr
  rw [stepWith, cuSteps_ended hr] at h
  cases h

/-- An instruction step with its first byte past memory ends in FETCH_HIGH (60_exceptions.md R221). -/
theorem stepWith_pastMemory (hr : s.result = .running) (hc : s.cu = .fetchHigh) (hb : BelowBound c s)
    (hp : 0x7FF < s.pc.toNat) : stepWith c s = .next ((s.setFaultAddr s.pc).setResult .addressFault) :=
  cuSteps_ends 3 (cuStep_fetchHigh_pastMemory hr hc hb hp) (by simp)

/-- An instruction step with only its first byte in memory ends in FETCH_LOW (60_exceptions.md R221). -/
theorem stepWith_lastByte (hr : s.result = .running) (hc : s.cu = .fetchHigh) (hb : BelowBound c s)
    (hp : s.pc.toNat = 0x7FF) :
    stepWith c s = .next (((fetchHighBody s).setFaultAddr (s.pc + 1#12)).setResult .addressFault) := by
  have hpast : 0x7FF < (fetchHighBody s).pc.toNat := by rw [fetchHighBody_pc_toNat hp.le]; omega
  obtain ⟨u, hu, -, hs⟩ := fetchLow_at_lastByte hr hc hb hp
  rw [hs, ← hu]
  exact cuStep_fetchLow_pastMemory ((fetchHighBody_result s).trans hr) rfl hpast

/-- An instruction step on a word with an unassigned code (60_exceptions.md R214, R217). -/
theorem stepWith_unassigned (h : FetchReady c s)
    (hun : Unassigned c.opcodeMap ((wordAt s s.pc.toNat).extractLsb' 11 5)) :
    stepWith c s = .next (unrecognized c.decodeMode (fetched s)) := by
  rw [stepWith_eq_cuExecute_fetched h, cuExecute_none (decodeFields_eq_none_iff.2 hun)]

/-- Without a bound no instruction step reaches `runaway` (60_exceptions.md R218). -/
theorem stepWith_ne_runaway (hm : c.maxInstr = none) (h : stepWith c s = .next t) : t.result ≠ .runaway := by
  have hkept (u v : State) (_ : u.result ≠ .runaway) (huv : cuStep c u = .next v) : v.result ≠ .runaway := by
    cases cuStep_leaves huv with
    | running hr _ => simp [hr]
    | runaway _ hb => simp [not_belowBound_iff, hm] at hb
    | success | addressFault | invalidOpcode => simp
  exact cuSteps_preserves c hkept 4 (by simp [running_of_stepWith_next h]) h

/-- No number of steps moves a state whose run has ended (60_exceptions.md R220). -/
theorem runSteps_ended (h : s.result ≠ .running) (n : Nat) : runSteps c n s = s := by
  cases n with
  | zero => rfl
  | succ n => simp [runSteps, stepWith, cuSteps_ended h]

end

/-! What the host receives (60_exceptions.md R222, R228). -/

theorem runEnd_eq_none_iff {s : State} : runEnd s = none ↔ s.result = .running := by
  unfold runEnd
  cases s.result <;> simp

/-- The end that the host receives names RESULT (60_exceptions.md R222). -/
theorem runEnd_tells {s : State} {e : RunEnd} (h : runEnd s = some e) :
    (e = .success ↔ s.result = .success) ∧ (e = .addressFault s.faultAddr ↔ s.result = .addressFault)
      ∧ (e = .runaway ↔ s.result = .runaway) ∧ (e = .invalidOpcode ↔ s.result = .invalidOpcode) := by
  cases hr : s.result with
  | running => simp [runEnd, hr] at h
  | success | addressFault | runaway | invalidOpcode =>
    obtain rfl : _ = e := by simpa [runEnd, hr] using h
    simp

/-- A fault state ends the run, and not with success (60_exceptions.md R220). -/
theorem FaultState.runEnd_ne {s : State} (h : FaultState s) : runEnd s ≠ none ∧ runEnd s ≠ some .success := by
  obtain h | h | h := h <;> simp [runEnd, h]

theorem finalReport_eq_none_iff {s : State} : finalReport s = none ↔ runEnd s = none := by
  unfold finalReport
  cases runEnd s <;> simp

theorem finalReport_eq_some_iff {s : State} {e : RunEnd} {r : Snapshot} :
    finalReport s = some (e, r) ↔ runEnd s = some e ∧ snapshot s = r := by
  unfold finalReport
  cases runEnd s <;> simp

theorem rwBit_eq_decide (d : Direction) : rwBit d = decide (d = .write) := by cases d <;> rfl

/-- An instruction step that ends safely emits the record of the state it leaves (60_exceptions.md R228). -/
theorem stepTrace_of_safe {c : Config} {s t : State} (h : stepWith c s = .next t) (ht : SafeState t) :
    stepTrace c s = some (traceRecord t) := by
  obtain hr | hr := ht <;> simp [stepTrace, h, hr]

end Sys2Proof.Machine

namespace Sys2Proof.Proofs

open Sys2Proof.Machine

/-- Settles O16: `exec` answers `executed`, and no step before the end of an instruction leads to TERMINATE. -/
theorem everyRunningStateSteps : Obligations.EveryRunningStateSteps :=
  ⟨fun i s => ⟨_, exec_eq i s⟩, fun c _ hr hc => ⟨exists_cuStep c hr hc, exists_cuSteps c 4 hr hc⟩⟩

/-- Settles O18: the first check of FETCH_HIGH, the one cause of `runaway`. -/
theorem hostBoundEndsTheRunFirst : Obligations.HostBoundEndsTheRunFirst :=
  ⟨fun _ _ n hr hc hm hn => cuStep_fetchHigh_bound hr hc (not_belowBound_iff.2 ⟨n, hm, hn⟩),
    fun _ _ _ => stepWith_ne_runaway⟩

/-- Settles O19: permissive mode adds one diagnostic to the fetched state, whose PC is p + 2. -/
theorem diagnosticIsNonFatal : Obligations.DiagnosticIsNonFatal := by
  refine ⟨fun s => rfl, fun c s h hmode hun => ⟨_, stepWith_unassigned h hun, ?_⟩⟩
  have hrec : diagRecord (Claims.fetched s) = ⟨s.pc, (Claims.wordAt s s.pc.toNat).extractLsb' 11 5⟩ :=
    congrArg (DiagRecord.mk · _) (BitVec.add_sub_cancel s.pc 2#12)
  rw [hmode, unrecognized, diagInvalidControlSignal, hrec]
  exact ⟨rfl, rfl, rfl, rfl, rfl, rfl, rfl, rfl, h.running, rfl, rfl⟩

/-- Settles O20: case by case of what a state step can leave. -/
theorem eachOutcomeHasItsCause : Obligations.EachOutcomeHasItsCause := by
  intro c s t h
  cases cuStep_leaves h with
  | running hr _ => simp [hr]
  | success hc hd => simp [hc, hd]
  | addressFault hc hp => simp [hc, hp]
  | runaway hc hb => simp [hc, not_belowBound_iff.1 hb]
  | invalidOpcode hc hm hun => exact ⟨nofun, nofun, nofun, fun _ => ⟨hc, hm, hun, rfl⟩⟩

/-- Settles O21: every step of an ended run is the same fault. -/
theorem endedRunIsFrozen : Obligations.EndedRunIsFrozen :=
  ⟨fun c s h => ⟨(cuSteps_one c s).symm.trans (cuSteps_ended h 0), cuSteps_ended h 3, runSteps_ended h⟩,
    fun _ => FaultState.runEnd_ne⟩

/-- Settles O22: the early ends of the instruction step in plain updates. -/
theorem fatalErrorsArePrecise : Obligations.FatalErrorsArePrecise := by
  intro c s hr hc hb
  refine ⟨fun hp => ?_, fun hp => ?_, fun hp hmode hun => ?_⟩
  · have hstep := stepWith_pastMemory hr hc hb (by simp [hp])
    rw [hp] at hstep
    exact hstep
  · have haddr : pcAddr 0x7FF#12 = 0x7FF#11 := by decide
    have hnext : 0x7FF#12 + 1#12 = 0x800#12 := by decide
    rw [stepWith_lastByte hr hc hb (by simp [hp]), fetchHighBody_eq, hp, haddr, hnext]
    refine congrArg _ ?_
    apply State.ext_fields <;> simp
  · rw [stepWith_unassigned ⟨hr, hc, hb, hp⟩ hun, hmode]
    rfl

/-- Settles O23: the report pairs the end of the run with the snapshot. -/
theorem finalReportTellsTheOutcome : Obligations.FinalReportTellsTheOutcome := by
  refine fun s => ⟨finalReport_eq_none_iff.trans runEnd_eq_none_iff, fun e r h => ?_⟩
  obtain ⟨he, rfl⟩ := finalReport_eq_some_iff.1 h
  exact ⟨⟨rfl, rfl, rfl, rfl, rfl, rfl, rfl, rfl, rfl, rfl, rfl, rfl, rfl, rfl, rfl, rfl, rfl, rfl⟩, runEnd_tells he⟩

/-- Settles O24: the record is the one of the state that the step leaves, RW as a bit. -/
theorem traceRecordHoldsTheFields : Obligations.TraceRecordHoldsTheFields := by
  intro c s t h ht
  rw [stepTrace_of_safe h ht, traceRecord, rwBit_eq_decide]

end Sys2Proof.Proofs
end

section
/-! Reset, the loader, and the runs that start from them (spec/70_reset_and_hazards.md R244, R245). -/

namespace Sys2Proof.Machine

section
variable {a : Nat} {v : Byte} {img : Image} {s t : State}

theorem loadImage_cons_inMemory (h : a ≤ 0x7FF) :
    loadImage ((a, v) :: img) s = loadImage img (s.setMem (s.mem.write a v)) := by
  simp [loadImage, memWrite_inMemory v h]

theorem loadImage_cons_outside (h : 0x7FF < a) : loadImage ((a, v) :: img) s = .error a := by
  simp [loadImage, memWrite_outside v h]

/-- What the loader accepts: a first address in memory, and the rest from the memory with that byte written. -/
theorem loadImage_cons_eq_ok_iff :
    loadImage ((a, v) :: img) s = .ok t ↔ a ≤ 0x7FF ∧ loadImage img (s.setMem (s.mem.write a v)) = .ok t := by
  obtain ha | ha := Nat.lt_or_ge 0x7FF a
  · simp [loadImage_cons_outside ha, ha]
  · simp [loadImage_cons_inMemory ha, ha]

theorem Image.inRange_cons : Image.inRange ((a, v) :: img) = (decide (a ≤ 0x7FF) && Image.inRange img) := List.all_cons

theorem Image.isMap_cons_iff :
    Image.isMap ((a, v) :: img) = true ↔ (∀ w, (a, w) ∉ img) ∧ Image.isMap img = true := by
  simp [Image.isMap]

/-- The loader changes memory only. -/
theorem loadImage_frame (h : loadImage img s = .ok t) : t = s.setMem t.mem := by
  induction img generalizing s with
  | nil => cases h; rfl
  | cons cell img ih =>
    obtain ⟨-, hload⟩ := loadImage_cons_eq_ok_iff.1 h
    exact (ih hload).trans rfl

/-- An address that the image does not give reads as before the load. -/
theorem memRead_loadImage_of_notMem (hm : MemCanonical s) (h : loadImage img s = .ok t) (hn : ∀ v, (a, v) ∉ img) :
    memRead a t = memRead a s := by
  induction img generalizing s with
  | nil => cases h; rfl
  | cons cell img ih =>
    obtain ⟨b, w⟩ := cell
    obtain ⟨hb, hload⟩ := loadImage_cons_eq_ok_iff.1 h
    have hne : a ≠ b := by
      rintro rfl
      exact hn w List.mem_cons_self
    calc memRead a t
        = memRead a (s.setMem (s.mem.write b w)) :=
          ih (Memory.write_wf w hb hm) hload fun v hv => hn v (List.mem_cons_of_mem _ hv)
      _ = memRead a s := memRead_write_ne w hm hne

/-- An address that a map gives reads as its byte: it is written once, and the rest of the image leaves it. -/
theorem memRead_loadImage_of_mem (hm : MemCanonical s) (hmap : img.isMap = true) (h : loadImage img s = .ok t)
    (hv : (a, v) ∈ img) : memRead a t = some v := by
  induction img generalizing s with
  | nil => cases hv
  | cons cell img ih =>
    obtain ⟨b, w⟩ := cell
    obtain ⟨hb, hload⟩ := loadImage_cons_eq_ok_iff.1 h
    obtain ⟨honce, hrest⟩ := Image.isMap_cons_iff.1 hmap
    have hm' : MemCanonical (s.setMem (s.mem.write b w)) := Memory.write_wf w hb hm
    obtain heq | hv := List.mem_cons.1 hv
    · cases heq
      rw [memRead_loadImage_of_notMem hm' hload honce, memRead_inMemory hb, State.setMem_mem, Memory.read_write hm,
        if_pos rfl]
    · exact ih hm' hrest hload hv

/-- The loader accepts an image in range. -/
theorem exists_loadImage_of_inRange (h : img.inRange = true) : ∃ t, loadImage img s = .ok t := by
  induction img generalizing s with
  | nil => exact ⟨s, rfl⟩
  | cons cell img ih =>
    rw [Image.inRange_cons, Bool.and_eq_true, decide_eq_true_iff] at h
    rw [loadImage_cons_inMemory h.1]
    exact ih h.2

/-- The loader refuses any other image, with an address outside memory that the image gives. -/
theorem loadImage_refuses_of_not_inRange (h : img.inRange = false) :
    ∃ a v, (a, v) ∈ img ∧ 0x7FF < a ∧ loadImage img s = .error a := by
  induction img generalizing s with
  | nil => cases h
  | cons cell img ih =>
    obtain ⟨b, w⟩ := cell
    obtain hb | hb := Nat.lt_or_ge 0x7FF b
    · exact ⟨b, w, List.mem_cons_self, hb, loadImage_cons_outside hb⟩
    · rw [Image.inRange_cons, decide_eq_true hb, Bool.true_and] at h
      obtain ⟨a, v, hv, ha, he⟩ := ih h
      exact ⟨a, v, List.mem_cons_of_mem _ hv, ha, (loadImage_cons_inMemory hb).trans he⟩

end

/-- A state that boots is the reset state of its own memory, so what holds at every reset holds of it (R245). -/
theorem boot_inv {p : ResetParams} {img : Image} {s : State} (hp : p.mem0.wf = true) (h : boot p img = .ok s) :
    Inv s := by
  have heq : s = State.resetWith { p with mem0 := s.mem } := loadImage_frame h
  rw [heq]
  exact resetWith_inv (loadImage_wf (s := State.resetWith p) hp h)

/-- What every instruction step keeps, every run keeps. -/
theorem runSteps_preserves {P : State → Prop} (c : Config) (hP : ∀ s t, P s → stepWith c s = .next t → P t) (n : Nat)
    {s : State} (hs : P s) : P (runSteps c n s) := by
  induction n generalizing s with
  | zero => exact hs
  | succ n ih =>
    rw [runSteps]
    cases hstep : stepWith c s with
    | next t => exact ih (hP s t hs hstep)
    | fault | refused => exact hs

end Sys2Proof.Machine

namespace Sys2Proof.Proofs

open Sys2Proof.Machine

/-- Settles O8, by induction on the image: each byte it gives is one memory write. -/
theorem loaderWritesTheImage : Obligations.LoaderWritesTheImage := by
  refine fun img s hm => ⟨fun hrange hmap => ?_, loadImage_refuses_of_not_inRange⟩
  obtain ⟨t, ht⟩ := exists_loadImage_of_inRange (s := s) hrange
  exact ⟨t, ht, loadImage_frame ht, fun _ _ hv => memRead_loadImage_of_mem hm hmap ht hv,
    fun _ hn => memRead_loadImage_of_notMem hm ht hn⟩

/-- Settles O27: the invariant holds of a state that boots, and every instruction step keeps it. -/
theorem everyRunKeepsTheInvariant : Obligations.EveryRunKeepsTheInvariant :=
  fun c _ _ _ n hp hboot => runSteps_preserves c (fun _ _ => stepWith_keeps_inv c) n (boot_inv hp hboot)

end Sys2Proof.Proofs
end
